-- ==== Sys2Proof/Word.lean ====
section
/-! DEFINITION. The words, the bytes and the instance numbers of the SC-440 (spec/00_scope.md, "Items"). -/

namespace Sys2Proof

/-- An item word, a data word of either port. -/
abbrev Word := BitVec 32

/-- A byte of staging memory, a character of a line. -/
abbrev Byte := BitVec 8

/-- A 16-bit item number: the unit in the high byte, the index in the low byte (R159). -/
abbrev ItemNumber := BitVec 16

/-- A host processor served by the hub, 0 to 3. -/
abbrev TargetId := Fin 4

/-- An event source, 0 to 37 (R37). -/
abbrev SourceId := Fin 38

/-- A sequencer lane, 0 to 3 (spec/07). -/
abbrev LaneId := Fin 4

/-- A tally timer, 0 to 3 (spec/08). -/
abbrev TimerId := Fin 4

/-- A serial line. -/
inductive LineId where
  | a | b
  deriving DecidableEq, Repr

end Sys2Proof
end

