-- ==== Sys2Proof/Syntax.lean ====
section
/-! DEFINITION. The items of the hub, the pins a step finds, and the commands: one constructor of `Instr` for
each row of spec/opcode_table.json. -/

namespace Sys2Proof

/-! ### Items (spec/11, section 11.5) -/

/-- Items of unit 0x00. -/
inductive HubItem where
  | ident | waitLimit | fault | faultAck | flowCount | clearAll
  deriving DecidableEq, Repr

/-- Items of a target context, unit 0x02. -/
inductive TargetItem where
  | take | takeUrgent | done | offer | state | floor | vbase | vstride | dispatch
  | stack (k : Fin 4)
  | urgentStatus | doorbell | takeCount
  deriving DecidableEq, Repr

/-- Items of a line, units 0x03 and 0x04. -/
inductive LineItem where
  | format | status | start | stop | clear | control | rx | rxWait | tx | txWait | thresh
  | perr | serr | alarmMask | owner | release | reclaim | unlock | ctlchars | pecho | secho
  deriving DecidableEq, Repr

/-- Items of a lane, unit 0x05. -/
inductive LaneItem where
  | jobPlace | jobMode | submit | command | laneStatus | current | record | discarded
  deriving DecidableEq, Repr

/-- Items of a timer, unit 0x06. -/
inductive TimerItem where
  | config | limit | count | command | status
  deriving DecidableEq, Repr

/-- Items of the restart unit, 0x07. -/
inductive RestartItem where
  | restart | width | buttonMap | button
  | target (t : TargetId)
  deriving DecidableEq, Repr

/-- Items of the service alert unit, 0x09. -/
inductive AlertItem where
  | flags | mask | doorbellStatus | abortCount
  deriving DecidableEq, Repr

/-- Every item of the directory of spec/11. -/
inductive Item where
  | hub (i : HubItem)
  | srcEntry (src : SourceId)
  | srcStatus (src : SourceId)
  | tgt (t : TargetId) (i : TargetItem)
  | line (l : LineId) (i : LineItem)
  | lane (n : LaneId) (i : LaneItem)
  | tickLength
  | timer (n : TimerId) (i : TimerItem)
  | rsc (i : RestartItem)
  | snap (k : Fin 9)
  | alert (i : AlertItem)
  | staging (k : Fin 1024)
  deriving DecidableEq, Repr

/-! ### What a step finds at its instant -/

/-- The levels of the input pins at the instant of a step (spec/00, pins; R153: a step reads each pin's level at its
instant). RESET_N is not among them: its two edges are commands. -/
structure Pins where
  /-- HREQ (R1). -/
  hreq : Bool
  /-- HWR: a write. -/
  hwr : Bool
  /-- HPRIV: privileged. -/
  hpriv : Bool
  /-- HITEM[15:0]. -/
  hitem : ItemNumber
  /-- HDATA[31:0] as the bus master drives it for a write. -/
  hdata : Word
  /-- SEIZE_PERMIT, high. -/
  seizePermit : Bool
  /-- RESTART_IN, asserted when high (R148). -/
  restartIn : Bool
  /-- XR[15:0]. -/
  xr : BitVec 16
  /-- LA_RXD at mark. -/
  rxdA : Bool
  /-- LB_RXD at mark. -/
  rxdB : Bool
  /-- SVC_SEL, asserted when high (R19). -/
  svcSel : Bool
  /-- SVC_CLK. -/
  svcClk : Bool
  /-- SVC_DIN. -/
  svcDin : Bool
  deriving DecidableEq, Repr

/-- The instant of a step: how many REFCLK periods lie between the step before it and this one, and the pins. -/
structure Moment where
  gap : Nat
  pins : Pins
  deriving DecidableEq, Repr

/-- The samples of one received frame as its receiver took them (R83): the data bits, least significant first, the
parity bit (meaningless without parity) and the first stop bit; `true` is mark. -/
structure RawFrame where
  data : Byte
  parity : Bool
  stop : Bool
  deriving DecidableEq, Repr

/-! ### Commands -/

/-- One constructor for each row of spec/opcode_table.json. `m` is the command's instant; `priv` is HPRIV; `data` is
the data word; `high` holds the bits of the data word that the row's item ignores beside its command; `arg` is the
16-bit argument of a service frame. -/
inductive Instr where
  | resetNAssert (m : Moment)
  | resetNRelease (m : Moment)
  | hostTransactionBegin (m : Moment) (write priv : Bool) (num : ItemNumber) (data : Word)
  | registerWrite (m : Moment) (priv : Bool) (num : ItemNumber) (data : Word)
  | hubFaultAck (m : Moment) (priv : Bool) (data : Word)
  | hubFlowCount (m : Moment) (priv : Bool) (data : Word)
  | hubClearAll (m : Moment) (priv : Bool) (data : Word)
  | lineRxWait (m : Moment) (priv : Bool) (l : LineId)
  | lineTxWait (m : Moment) (priv : Bool) (l : LineId) (data : Word)
  | heldRequestCompletion (m : Moment)
  | waitLimitExpiry (m : Moment)
  | srcEntry (m : Moment) (priv : Bool) (src : SourceId) (data : Word)
  | srcStatus (m : Moment) (priv : Bool) (src : SourceId) (data : Word)
  | tgtTake (m : Moment) (priv : Bool) (t : TargetId)
  | tgtTakeUrgent (m : Moment) (priv : Bool) (t : TargetId)
  | tgtDone (m : Moment) (priv : Bool) (t : TargetId) (data : Word)
  | tgtFloor (m : Moment) (priv : Bool) (t : TargetId) (data : Word)
  | tgtUrgentStatus (m : Moment) (priv : Bool) (t : TargetId) (data : Word)
  | doorbellWord (m : Moment) (priv : Bool) (t : TargetId)
  | lineStart (m : Moment) (priv : Bool) (l : LineId) (data : Word)
  | lineStop (m : Moment) (priv : Bool) (l : LineId) (data : Word)
  | lineClear (m : Moment) (priv : Bool) (l : LineId) (data : Word)
  | lineControlStart (m : Moment) (l : LineId) (high : BitVec 30)
  | lineControlStop (m : Moment) (l : LineId) (high : BitVec 30)
  | lineControlClear (m : Moment) (l : LineId) (high : BitVec 30)
  | lineRx (m : Moment) (priv : Bool) (l : LineId)
  | lineTx (m : Moment) (priv : Bool) (l : LineId) (data : Word)
  | linePerr (m : Moment) (priv : Bool) (l : LineId) (data : Word)
  | lineSerr (m : Moment) (l : LineId) (data : Word)
  | releaseLine (m : Moment) (priv : Bool) (l : LineId) (data : Word)
  | reclaimLine (m : Moment) (priv : Bool) (l : LineId) (data : Word)
  | unlockSeize (m : Moment) (priv : Bool) (l : LineId) (data : Word)
  | tsqSubmit (m : Moment) (priv : Bool) (n : LaneId) (data : Word)
  | resume (m : Moment) (priv : Bool) (n : LaneId) (high : BitVec 30)
  | abort (m : Moment) (priv : Bool) (n : LaneId) (high : BitVec 30)
  | tsqRecord (m : Moment) (priv : Bool) (n : LaneId)
  | tsqDiscarded (m : Moment) (priv : Bool) (n : LaneId) (data : Word)
  | ttmTick (m : Moment) (priv : Bool) (data : Word)
  | start (m : Moment) (priv : Bool) (n : TimerId) (high : BitVec 30)
  | stop (m : Moment) (priv : Bool) (n : TimerId) (high : BitVec 30)
  | ack (m : Moment) (priv : Bool) (n : TimerId) (high : BitVec 30)
  | ttmStatus (m : Moment) (priv : Bool) (n : TimerId) (data : Word)
  | rscRestart (m : Moment) (priv : Bool) (data : Word)
  | status (m : Moment) (arg : BitVec 16)
  | read (m : Moment) (arg : BitVec 16)
  | pop (m : Moment) (arg : BitVec 16)
  | snapshot (m : Moment) (arg : BitVec 16)
  | write (m : Moment) (arg : BitVec 16) (data : Word)
  | push (m : Moment) (arg : BitVec 16) (data : Word)
  | seizeLine (m : Moment) (arg : BitVec 16) (data : Word)
  | yieldLine (m : Moment) (arg : BitVec 16) (data : Word)
  | ring (m : Moment) (arg : BitVec 16) (data : Word)
  | restart (m : Moment) (arg : BitVec 16) (data : Word)
  | releaseTarget (m : Moment) (arg : BitVec 16) (data : Word)
  | hold (m : Moment) (arg : BitVec 16) (data : Word)
  | alertClear (m : Moment) (arg : BitVec 16) (data : Word)
  | clearAll (m : Moment) (arg : BitVec 16) (data : Word)
  | badCommand (m : Moment) (code : Byte) (arg : BitVec 16) (data : Word)
  | abortedFrame (m : Moment)
  | receiverCompletion (m : Moment) (l : LineId) (given : Option RawFrame)
  | transmitterStart (m : Moment) (l : LineId)
  | transmitterCompletion (m : Moment) (l : LineId)
  | receiveMove (m : Moment) (l : LineId)
  | transmitMove (m : Moment) (l : LineId)
  | tickStep (m : Moment)
  | expiry (m : Moment) (n : TimerId)
  | pulseEnd (m : Moment) (t : TargetId)
  | buttonPress (m : Moment)
  | xrSampling (m : Moment)
  | buttonSample (m : Moment)
  | receiverSample (m : Moment) (l : LineId)
  deriving DecidableEq, Repr

end Sys2Proof
end

