-- ==== Sys2Proof/Decode.lean ====
section
/-! DEFINITION. Item numbers to items and back (R159 and the directory of spec/11), and the opcode table's words: no
row of spec/opcode_table.json gives bits, so no word spells a command. -/

namespace Sys2Proof

/-- Index of a hub-control item (spec/11, unit 0x00). -/
def HubItem.index : HubItem → Nat
  | .ident => 0 | .waitLimit => 1 | .fault => 2 | .faultAck => 3 | .flowCount => 4 | .clearAll => 5

/-- The hub-control item at an index. -/
def decodeHubItem : Nat → Option HubItem
  | 0 => some .ident | 1 => some .waitLimit | 2 => some .fault | 3 => some .faultAck
  | 4 => some .flowCount | 5 => some .clearAll | _ => none

/-- k of a target item (spec/04, section 4.1). -/
def TargetItem.index : TargetItem → Nat
  | .take => 0 | .takeUrgent => 1 | .done => 2 | .offer => 3 | .state => 4 | .floor => 5 | .vbase => 6
  | .vstride => 7 | .dispatch => 8 | .stack k => 9 + k.val | .urgentStatus => 13 | .doorbell => 14
  | .takeCount => 15

/-- The target item at k. -/
def decodeTargetItem : Nat → Option TargetItem
  | 0 => some .take | 1 => some .takeUrgent | 2 => some .done | 3 => some .offer | 4 => some .state
  | 5 => some .floor | 6 => some .vbase | 7 => some .vstride | 8 => some .dispatch
  | 9 => some (.stack 0) | 10 => some (.stack 1) | 11 => some (.stack 2) | 12 => some (.stack 3)
  | 13 => some .urgentStatus | 14 => some .doorbell | 15 => some .takeCount | _ => none

/-- Index of a line item (spec/05, section 5.1; spec/06, section 6.1). -/
def LineItem.index : LineItem → Nat
  | .format => 0x00 | .status => 0x01 | .start => 0x02 | .stop => 0x03 | .clear => 0x04 | .control => 0x05
  | .rx => 0x06 | .rxWait => 0x07 | .tx => 0x08 | .txWait => 0x09 | .thresh => 0x0A | .perr => 0x0B
  | .serr => 0x0C | .alarmMask => 0x0D | .owner => 0x0E | .release => 0x0F | .reclaim => 0x10
  | .unlock => 0x11 | .ctlchars => 0x12 | .pecho => 0x13 | .secho => 0x14

/-- The line item at an index. -/
def decodeLineItem : Nat → Option LineItem
  | 0x00 => some .format | 0x01 => some .status | 0x02 => some .start | 0x03 => some .stop
  | 0x04 => some .clear | 0x05 => some .control | 0x06 => some .rx | 0x07 => some .rxWait
  | 0x08 => some .tx | 0x09 => some .txWait | 0x0A => some .thresh | 0x0B => some .perr
  | 0x0C => some .serr | 0x0D => some .alarmMask | 0x0E => some .owner | 0x0F => some .release
  | 0x10 => some .reclaim | 0x11 => some .unlock | 0x12 => some .ctlchars | 0x13 => some .pecho
  | 0x14 => some .secho | _ => none

/-- k of a lane item (spec/07, section 7.2). -/
def LaneItem.index : LaneItem → Nat
  | .jobPlace => 0 | .jobMode => 1 | .submit => 2 | .command => 3 | .laneStatus => 4 | .current => 5
  | .record => 6 | .discarded => 7

/-- The lane item at k. -/
def decodeLaneItem : Nat → Option LaneItem
  | 0 => some .jobPlace | 1 => some .jobMode | 2 => some .submit | 3 => some .command
  | 4 => some .laneStatus | 5 => some .current | 6 => some .record | 7 => some .discarded | _ => none

/-- k of a timer item (spec/08, section 8.1). -/
def TimerItem.index : TimerItem → Nat
  | .config => 0 | .limit => 1 | .count => 2 | .command => 3 | .status => 4

/-- The timer item at k. -/
def decodeTimerItem : Nat → Option TimerItem
  | 0 => some .config | 1 => some .limit | 2 => some .count | 3 => some .command | 4 => some .status
  | _ => none

/-- Index of a restart item (spec/09, section 9.1). -/
def RestartItem.index : RestartItem → Nat
  | .restart => 0 | .width => 1 | .buttonMap => 2 | .button => 3 | .target t => 4 + t.val

/-- The restart item at an index. -/
def decodeRestartItem : Nat → Option RestartItem
  | 0 => some .restart | 1 => some .width | 2 => some .buttonMap | 3 => some .button
  | 4 => some (.target 0) | 5 => some (.target 1) | 6 => some (.target 2) | 7 => some (.target 3)
  | _ => none

/-- Index of a service alert item (spec/11, unit 0x09). -/
def AlertItem.index : AlertItem → Nat
  | .flags => 0 | .mask => 1 | .doorbellStatus => 2 | .abortCount => 3

/-- The service alert item at an index. -/
def decodeAlertItem : Nat → Option AlertItem
  | 0 => some .flags | 1 => some .mask | 2 => some .doorbellStatus | 3 => some .abortCount | _ => none

/-- The unit of a line's items: 0x03 for line A, 0x04 for line B (spec/05, section 5.1). -/
def LineId.unit : LineId → Nat
  | .a => 3 | .b => 4

/-- The number of an item: its unit times 256 plus its index, by the directory of spec/11. -/
def Item.numberNat : Item → Nat
  | .hub i => i.index
  | .srcEntry src => 0x100 + 2 * src.val
  | .srcStatus src => 0x100 + 2 * src.val + 1
  | .tgt t i => 0x200 + 16 * t.val + i.index
  | .line l i => 256 * l.unit + i.index
  | .lane n i => 0x500 + 8 * n.val + i.index
  | .tickLength => 0x600
  | .timer n i => 0x610 + 8 * n.val + i.index
  | .rsc i => 0x700 + i.index
  | .snap k => 0x800 + k.val
  | .alert i => 0x900 + i.index
  | .staging k => 0xA00 + k.val

/-- The 16-bit number of an item. -/
def Item.number (it : Item) : ItemNumber := BitVec.ofNat 16 it.numberNat

/-- The source item at an index of unit 0x01: 2s is SRC_ENTRY of s, 2s + 1 its SRC_STATUS. -/
def decodeSourceItem (i : Nat) : Option Item :=
  if h : i / 2 < 38 then
    if i % 2 = 0 then some (.srcEntry ⟨i / 2, h⟩) else some (.srcStatus ⟨i / 2, h⟩)
  else none

/-- The target item at an index of unit 0x02. -/
def decodeTargetUnit (i : Nat) : Option Item :=
  if h : i / 16 < 4 then (decodeTargetItem (i % 16)).map (.tgt ⟨i / 16, h⟩) else none

/-- The lane item at an index of unit 0x05. -/
def decodeLaneUnit (i : Nat) : Option Item :=
  if h : i / 8 < 4 then (decodeLaneItem (i % 8)).map (.lane ⟨i / 8, h⟩) else none

/-- The timer item at an index of unit 0x06. -/
def decodeTimerUnit (i : Nat) : Option Item :=
  if i = 0 then some .tickLength
  else if i < 16 then none
  else if h : (i - 16) / 8 < 4 then (decodeTimerItem ((i - 16) % 8)).map (.timer ⟨(i - 16) / 8, h⟩)
  else none

/-- The snapshot item at an index of unit 0x08. -/
def decodeSnapUnit (i : Nat) : Option Item :=
  if h : i < 9 then some (.snap ⟨i, h⟩) else none

/-- The staging word at an offset from item 0x0A00 (R116). -/
def decodeStaging (k : Nat) : Option Item :=
  if h : k < 1024 then some (.staging ⟨k, h⟩) else none

/-- The item of a unit and an index, if they name one (R159). -/
def decodeUnit (u i : Nat) : Option Item :=
  match u with
  | 0 => (decodeHubItem i).map .hub
  | 1 => decodeSourceItem i
  | 2 => decodeTargetUnit i
  | 3 => (decodeLineItem i).map (.line .a)
  | 4 => (decodeLineItem i).map (.line .b)
  | 5 => decodeLaneUnit i
  | 6 => decodeTimerUnit i
  | 7 => (decodeRestartItem i).map .rsc
  | 8 => decodeSnapUnit i
  | 9 => (decodeAlertItem i).map .alert
  | v => if v < 0x0A then none else decodeStaging (256 * (v - 0x0A) + i)

/-- The item an item number names, if it names one (R159): the unit is the high byte, the index the low byte. -/
def decodeItem (num : ItemNumber) : Option Item := decodeUnit (num.toNat / 256) (num.toNat % 256)

/-- The command a table word spells: none, since no row of the opcode table gives bits. -/
def decodeTableWord (_nbits _w : Nat) : Option Instr := none

end Sys2Proof
end

