-- ==== Sys2Proof/Config.lean ====
section
/-! DEFINITION. What the part fixes: the reference clock and the lengths measured in its periods. -/

namespace Sys2Proof.Config

/-- REFCLK periods in one microsecond: REFCLK is 32 MHz (spec/00, pins; R153). -/
def periodsPerMicro : Nat := 32

/-- REFCLK periods in one millisecond (R153). -/
def periodsPerMilli : Nat := 32000

/-- The power-on pulse width in milliseconds (R143, R146). -/
def powerOnWidth : Nat := 10

/-- Entries a character queue holds (R89). -/
def queueDepth : Nat := 32

/-- Jobs a lane's queue holds, and records its list holds (R118). -/
def laneDepth : Nat := 8

/-- Entries a service stack holds (R58). -/
def stackDepth : Nat := 8

/-- Sources an urgent queue holds (R58). -/
def urgentDepth : Nat := 4

/-- Bytes of staging memory (R116). -/
def stagingSize : Nat := 4096

/-- Bits of a service frame (R19). -/
def frameBits : Nat := 64

end Sys2Proof.Config
end

