-- ==== Sys2Proof/Machine/State.lean ====
section
/-! DEFINITION. The state of the SC-440: every piece of state the spec names, as plain data; the state right after the
release of RESET_N; the model's faults and refusals. All instants are in REFCLK periods since that release. -/

namespace Sys2Proof.Machine

open Sys2Proof

/-! ### Host transaction port (spec/01) -/

/-- A held request (R8): what it remembers, and the wait limit read when it became held (R11). -/
structure Held where
  line : LineId
  write : Bool
  data : Word
  since : Nat
  limit : Byte
  deriving DecidableEq, Repr

/-- The transaction in progress, if any (R1, R8): held, or completed and waiting for HREQ to be released. -/
inductive HostPhase where
  | idle
  | held (h : Held)
  | completed
  deriving DecidableEq, Repr

/-- The fault record behind HUB_FAULT (R13, R14). It is empty when `count` is 0. -/
structure FaultRecord where
  item : ItemNumber
  reason : BitVec 4
  write : Bool
  priv : Bool
  overflow : Bool
  count : Byte
  deriving DecidableEq, Repr

/-- The empty fault record: zero in every field. -/
def FaultRecord.empty : FaultRecord := ⟨0, 0, false, false, false, 0⟩

/-- The host transaction port, its outputs HDONE, HREFUSE and HDATA among it. -/
structure HostPort where
  phase : HostPhase
  hdone : Bool
  hrefuse : Bool
  hdata : Word
  waitLimit : Byte
  fault : FaultRecord
  flowCount : BitVec 16
  deriving DecidableEq, Repr

/-! ### Service port (spec/02) -/

/-- The frame in progress (R19): the levels of SVC_DIN sampled so far, the first one first (R25: 64 at most), whether
its command has executed (R21), the alert summary formed at its beginning (R20), the status byte once it is formed (R22)
and the data the hub returns in bytes 4 to 7. -/
structure Frame where
  bits : List Bool
  executed : Bool
  summary : Byte
  status : Option Byte
  data : Word
  deriving DecidableEq, Repr

/-- The posted record (R23). -/
structure Posted where
  result : BitVec 4
  code : Byte
  arg : BitVec 16
  deriving DecidableEq, Repr

/-- A doorbell: its word and its unread flag (R33, R34). -/
structure Doorbell where
  word : Word
  unread : Bool
  deriving DecidableEq, Repr

/-- The snapshot record (R35). -/
structure Snapshot where
  seq : BitVec 16
  src : Vector Word 4
  tgt : Vector Word 4
  deriving DecidableEq, Repr

/-- The service port. `sel` and `clk` are the levels of SVC_SEL and SVC_CLK that it last looked at (R19); `aborts` counts
the frames that ended early and whose step of R24 is still to be taken. `sticky` holds the sticky alert flags 0 to 7; the
level flags 8 to 11 follow the lines and are computed. `alert` is the output SVC_ALERT. -/
structure ServicePort where
  frame : Option Frame
  waitRelease : Bool
  sel : Bool
  clk : Bool
  aborts : Nat
  posted : Posted
  sticky : Byte
  mask : BitVec 12
  alert : Bool
  doorbells : Vector Doorbell 4
  snap : Snapshot
  abortCount : Byte
  deriving DecidableEq, Repr

/-! ### Event sources (spec/03) -/

inductive SourceClass where
  | normal | urgent
  deriving DecidableEq, Repr

inductive Trigger where
  | level | edge
  deriving DecidableEq, Repr

/-- SRC_ENTRY's fields (spec/03, section 3.2). `spreadMode` is the target mode: false FIXED, true SPREAD. -/
structure Entry where
  enable : Bool
  cls : SourceClass
  trigger : Trigger
  spreadMode : Bool
  fixed : TargetId
  spread : BitVec 4
  level : BitVec 5
  tag : Byte
  deriving DecidableEq, Repr

/-- The state of a source together with its active target (R44): absent in IDLE and PENDING. -/
inductive SourceState where
  | idle
  | pending
  | active (t : TargetId)
  | activePending (t : TargetId)
  | queued (t : TargetId)
  deriving DecidableEq, Repr

structure Source where
  entry : Entry
  state : SourceState
  input : Bool
  merge : Byte
  deriving DecidableEq, Repr

/-! ### Target contexts (spec/04) and restart (spec/09) -/

/-- A target context (R58). `stack` is bottom first, `urgent` head first; `vbase` is the upper 20 bits of the vector
base, whose low 12 bits are zero. -/
structure Target where
  floor : BitVec 5
  hold : Bool
  stack : List (SourceId × BitVec 5)
  urgent : List SourceId
  vbase : BitVec 20
  vstride : BitVec 3
  dispatch : Word
  lost : Byte
  takes : Word
  deriving DecidableEq, Repr

/-- The outputs of a target: TGT_IRQ, TGT_LVL, TGT_URG (R62) and TGT_RST (R143). -/
structure TargetOut where
  irq : Bool
  lvl : BitVec 5
  urg : Bool
  rst : Bool
  deriving DecidableEq, Repr

/-- Restart state (R143); in PULSE with the instant at which the pulse ends. -/
inductive RunState where
  | run
  | pulse (ends : Nat)
  | held
  deriving DecidableEq, Repr

inductive Cause where
  | power | service | host | watchdog | button
  deriving DecidableEq, Repr

/-- The restart controller's state of one target (R143). -/
structure Restart where
  state : RunState
  count : Byte
  merged : Byte
  cause : Cause
  deriving DecidableEq, Repr

inductive ButtonPhase where
  | released | pressing | pressed | releasing
  deriving DecidableEq, Repr

/-- The restart controller's global settings and its debouncer (R146, R148). -/
structure RestartUnit where
  width : Byte
  buttonMap : BitVec 4
  phase : ButtonPhase
  run : Nat
  deriving DecidableEq, Repr

/-! ### Serial lines (spec/05, spec/06) -/

inductive Parity where
  | none | even | odd
  deriving DecidableEq, Repr

/-- LINE_FORMAT (R79). -/
structure Format where
  rate : BitVec 3
  seven : Bool
  parity : Parity
  twoStop : Bool
  deriving DecidableEq, Repr

inductive LineRun where
  | stopped | running | draining
  deriving DecidableEq, Repr

/-- The receiver's condition (spec/05, section 5.3; R82 to R84). `checking n`: n samples since the space sample.
`inFrame n bits`: n samples since the middle of the last bit, and the bits sampled so far, oldest first. `complete`:
the stop bit has been sampled and the receiver completion is due. `postBreak n`: n consecutive mark samples since a
break. -/
inductive RxPhase where
  | off
  | waitMark
  | hunting
  | checking (n : Nat)
  | inFrame (n : Nat) (bits : List Bool)
  | complete (raw : RawFrame)
  | postBreak (n : Nat)
  deriving DecidableEq, Repr

/-- A receiver: its condition, its sample grid's origin and last sample (R82), and the instant since which it has been
looking for the next frame: its start, its last completion or the clear that discarded its partial character (R82, R84,
R96). -/
structure Receiver where
  phase : RxPhase
  origin : Nat
  index : Nat
  fresh : Nat
  deriving DecidableEq, Repr

/-- The character a transmitter holds and the instant its start bit began (R90, R91). -/
structure TxChar where
  value : Byte
  started : Nat
  deriving DecidableEq, Repr

/-- A receive entry (spec/05, section 5.4). -/
structure RxEntry where
  value : Byte
  parity : Bool
  framing : Bool
  brk : Bool
  deriving DecidableEq, Repr

/-- One channel of a line: its two queues, its error flags and its echo setting. -/
structure Channel where
  rx : List RxEntry
  tx : List Byte
  flags : BitVec 5
  echo : Bool
  deriving DecidableEq, Repr

inductive Owner where
  | program | service
  deriving DecidableEq, Repr

/-- LINE_CTLCHARS (R101). -/
structure CtlChars where
  seize : Byte
  yield : Byte
  attention : Byte
  recognition : Bool
  deriving DecidableEq, Repr

/-- One serial line with its ownership arbiter. -/
structure Line where
  format : Format
  state : LineRun
  rx : Receiver
  tx : Option TxChar
  prog : Channel
  serv : Channel
  rxThresh : BitVec 6
  txThresh : BitVec 6
  interest : Bool
  alarmMask : BitVec 5
  owner : Owner
  lock : Bool
  ctl : CtlChars
  denied : Byte
  deriving DecidableEq, Repr

/-! ### Transfer sequencer (spec/07) -/

/-- A job descriptor (spec/07, section 7.3). -/
structure Job where
  tag : Byte
  offset : BitVec 12
  length : BitVec 13
  stopChar : Option Byte
  notify : Bool
  endOnError : Bool
  haltOnError : Bool
  deriving DecidableEq, Repr

/-- The assembly items of a lane (R119). -/
structure Assembly where
  offset : BitVec 12
  length : BitVec 13
  tag : Byte
  stopValue : Byte
  stopPresent : Bool
  notify : Bool
  endOnError : Bool
  haltOnError : Bool
  deriving DecidableEq, Repr

inductive JobStatus where
  | count | stopChar | error | brk | aborted
  deriving DecidableEq, Repr

/-- A record (R124). -/
structure Record where
  tag : Byte
  status : JobStatus
  moved : Nat
  notify : Bool
  deriving DecidableEq, Repr

/-- The placement outcome of a pending record (R118). -/
inductive Placement where
  | halt | continue
  deriving DecidableEq, Repr

/-- The lane state (R118). The current job and its bytes moved exist exactly in RUNNING, the pending record and its
placement outcome exactly in WAIT_RECORD, so they are part of the state. -/
inductive LaneState where
  | idle
  | running (job : Job) (moved : Nat)
  | halted
  | waitRecord (record : Record) (outcome : Placement)
  deriving DecidableEq, Repr

structure Lane where
  state : LaneState
  queue : List Job
  records : List Record
  discarded : Byte
  asm : Assembly
  deriving DecidableEq, Repr

/-! ### Tally timers (spec/08) -/

/-- TTM_TICK and the tick origin (R132). -/
structure TickBase where
  length : BitVec 16
  origin : Nat
  deriving DecidableEq, Repr

inductive TimerRun where
  | stopped | running | expired
  deriving DecidableEq, Repr

/-- A timer record (R133). -/
structure Timer where
  periodic : Bool
  state : TimerRun
  count : BitVec 24
  limit : BitVec 24
  mark : Bool
  lost : Byte
  guard : Bool
  escalation : Option TargetId
  deriving DecidableEq, Repr

/-! ### The order of steps (spec/10) -/

/-- What the order of simultaneous steps needs to know (R121, R152, R153): whether the first step of position 7 and of
position 8 has been taken at this instant, the lanes that have moved in the present round, and the index of the last
due instant taken on the microsecond, millisecond and tick bases. -/
structure Sched where
  passed7 : Bool
  passed8 : Bool
  moved : List LaneId
  lastMicro : Nat
  lastMilli : Nat
  lastTick : Nat
  deriving DecidableEq, Repr

/-! ### The whole hub -/

/-- The state of the hub. `raised` (the edges raised so far in the step being taken, R54), `pending` (the queue of
waiting commands) and `coming` (the levels that the input pins take in the REFCLK periods ahead, log 4) are the model's own
fields. -/
structure State where
  now : Nat
  inReset : Bool
  pins : Pins
  sched : Sched
  host : HostPort
  svc : ServicePort
  sources : Vector Source 38
  xrSample : BitVec 16
  targets : Vector Target 4
  outs : Vector TargetOut 4
  restarts : Vector Restart 4
  rsc : RestartUnit
  lineA : Line
  lineB : Line
  lanes : Vector Lane 4
  staging : List Host.Cell
  tick : TickBase
  timers : Vector Timer 4
  raised : List SourceId
  pending : List Instr
  coming : List Pins
  deriving DecidableEq, Repr

/-! ### Faults and refusals -/

/-- Why a step stops. -/
inductive Fault where
  /-- Raised by RECEIVE_MOVE and TRANSMIT_MOVE when the current job's offset plus its bytes moved lies beyond the
  4096 bytes of staging memory (R116). R120 admits no such job, so no run from reset raises it. Safe: the machine
  stops where the spec says nothing. -/
  | stagingOutOfRange
  deriving DecidableEq, Repr

/-- Why a command has no meaning. -/
inductive Refusal where
  /-- Raised by an arm of `exec` whose command has no meaning yet: none is left. Safe: the machine stops. -/
  | notModelled (mnemonic : String)
  deriving DecidableEq, Repr

/-! ### Right after reset -/

/-- The pins before any step has shown them: every input at rest. DESIGN CHOICE (log 4): the levels are the
board's. -/
def pinsAtRest : Pins :=
  ⟨false, false, false, 0, 0, false, false, 0, true, true, false, false, false⟩

/-- The power-on entry of a source with this number and fixed trigger (R40). -/
def Entry.powerOn (src : SourceId) (trigger : Trigger) : Entry :=
  ⟨false, .normal, trigger, false, 0, 1, 0, BitVec.ofNat 8 src.val⟩

/-- A source at its power-on entry: IDLE, input low, merge count 0 (R56). -/
def Source.powerOn (src : SourceId) (trigger : Trigger) : Source :=
  ⟨Entry.powerOn src trigger, .idle, false, 0⟩

/-- The source table at power-on: EDGE for sources 16 to 19, 26, 27, 30 and 31, LEVEL for the others (R37, R40). -/
def Source.powerOnTable : Vector Source 38 :=
  #v[.powerOn 0 .level, .powerOn 1 .level, .powerOn 2 .level, .powerOn 3 .level,
     .powerOn 4 .level, .powerOn 5 .level, .powerOn 6 .level, .powerOn 7 .level,
     .powerOn 8 .level, .powerOn 9 .level, .powerOn 10 .level, .powerOn 11 .level,
     .powerOn 12 .level, .powerOn 13 .level, .powerOn 14 .level, .powerOn 15 .level,
     .powerOn 16 .edge, .powerOn 17 .edge, .powerOn 18 .edge, .powerOn 19 .edge,
     .powerOn 20 .level, .powerOn 21 .level, .powerOn 22 .level, .powerOn 23 .level,
     .powerOn 24 .level, .powerOn 25 .level, .powerOn 26 .edge, .powerOn 27 .edge,
     .powerOn 28 .level, .powerOn 29 .level, .powerOn 30 .edge, .powerOn 31 .edge,
     .powerOn 32 .level, .powerOn 33 .level, .powerOn 34 .level, .powerOn 35 .level,
     .powerOn 36 .level, .powerOn 37 .level]

/-- A target context at power-on (R58). -/
def Target.powerOn : Target := ⟨0, false, [], [], 0, 0, 0, 0, 0⟩

/-- A channel at power-on: empty queues, clear flags, echo off (R97, R115). -/
def Channel.powerOn : Channel := ⟨[], [], 0, false⟩

/-- A line at power-on (R97, R115). -/
def Line.powerOn : Line where
  format := ⟨3, false, .none, false⟩
  state := .stopped
  rx := ⟨.off, 0, 0, 0⟩
  tx := none
  prog := .powerOn
  serv := .powerOn
  rxThresh := 1
  txThresh := 16
  interest := false
  alarmMask := 0x1F
  owner := .program
  lock := false
  ctl := ⟨0x1C, 0x1D, 0x1E, true⟩
  denied := 0

/-- A lane at power-on (R118, R119). -/
def Lane.powerOn : Lane :=
  ⟨.idle, [], [], 0, ⟨0, 0, 0, 0, false, false, false, false⟩⟩

/-- A timer at power-on (R133). -/
def Timer.powerOn : Timer := ⟨false, .stopped, 0, 1000, false, 0, false, none⟩

/-- A target's restart state at the release of RESET_N: PULSE with cause POWER, ending 10 ms later (R143). -/
def Restart.powerOn : Restart :=
  ⟨.pulse (Config.powerOnWidth * Config.periodsPerMilli), 0, 0, .power⟩

/-- The host port at power-on (R18). HDATA before the first completion is a DESIGN CHOICE (log 5). -/
def HostPort.powerOn : HostPort := ⟨.idle, false, false, 0, 0, .empty, 0⟩

/-- The service port at power-on (R36). -/
def ServicePort.powerOn : ServicePort where
  frame := none
  waitRelease := false
  sel := false
  clk := false
  aborts := 0
  posted := ⟨0, 0, 0⟩
  sticky := 0
  mask := 0xFFF
  alert := false
  doorbells := #v[⟨0, false⟩, ⟨0, false⟩, ⟨0, false⟩, ⟨0, false⟩]
  snap := ⟨0, #v[0, 0, 0, 0], #v[0, 0, 0, 0]⟩
  abortCount := 0

/-- The scheduler at the release of RESET_N: nothing taken yet (R153). -/
def Sched.powerOn : Sched := ⟨false, false, [], 0, 0, 0⟩

/-- The hub right after the release of RESET_N (R155 and the RESET_N column of spec/10): every target in its power-on
pulse, every source disabled, both lines STOPPED, no transaction, no frame, an empty queue. -/
def State.reset : State where
  now := 0
  inReset := false
  pins := pinsAtRest
  sched := .powerOn
  host := .powerOn
  svc := .powerOn
  sources := Source.powerOnTable
  xrSample := 0
  targets := #v[.powerOn, .powerOn, .powerOn, .powerOn]
  outs := #v[⟨false, 0, false, true⟩, ⟨false, 0, false, true⟩, ⟨false, 0, false, true⟩, ⟨false, 0, false, true⟩]
  restarts := #v[.powerOn, .powerOn, .powerOn, .powerOn]
  rsc := ⟨10, 1, .releasing, 0⟩
  lineA := .powerOn
  lineB := .powerOn
  lanes := #v[.powerOn, .powerOn, .powerOn, .powerOn]
  staging := []
  tick := ⟨1000, 0⟩
  timers := #v[.powerOn, .powerOn, .powerOn, .powerOn]
  raised := []
  pending := []
  coming := []

end Sys2Proof.Machine
end

