-- ==== Sys2Proof/Machine/Operands.lean ====
section
/-! DEFINITION. Refusal reasons and the layouts of the item words: every field, its place and its codes, both ways
where an item is written. -/

namespace Sys2Proof.Machine

open Sys2Proof

/-! ### Fields of a word -/

/-- A field's value at its lowest bit in a word. -/
def place {w : Nat} (v : BitVec w) (lo : Nat) : Word := v.setWidth 32 <<< lo

/-- One bit at its place in a word. -/
def bitAt (b : Bool) (lo : Nat) : Word := place (BitVec.ofBool b) lo

/-- The field of `len` bits whose lowest bit is `lo`. -/
def field (w : Word) (lo len : Nat) : BitVec len := w.extractLsb' lo len

/-- A count as a field of a word. -/
def placeNat (n lo : Nat) : Word := BitVec.ofNat 32 n <<< lo

/-- The target, lane or timer that a two-bit field names. -/
def toFour (x : BitVec 2) : Fin 4 := ⟨x.toNat, x.isLt⟩

/-- Bit t of a four-bit set. -/
def inSet (m : BitVec 4) (t : Fin 4) : Bool := m.getLsbD t.val

/-- A saturating counter's increment. -/
def satInc {w : Nat} (c : BitVec w) : BitVec w := if c = BitVec.allOnes w then c else c + 1

/-! ### Refusal reasons (R3) -/

/-- The results and refusal reasons of R3. -/
inductive Reason where
  | ok | noItem | readOnly | protection | badValue | notIdle | notInService | notPermitted | seizeDenied
  | empty | full | laneBusy | restarting | queueFull | cleared | pendingUnread | badCommand
  deriving DecidableEq, Repr

/-- The code of a result (R3): PENDING_UNREAD and BAD_COMMAND share 15. -/
def Reason.code : Reason → BitVec 4
  | .ok => 0 | .noItem => 1 | .readOnly => 2 | .protection => 3 | .badValue => 4 | .notIdle => 5
  | .notInService => 6 | .notPermitted => 7 | .seizeDenied => 8 | .empty => 9 | .full => 10
  | .laneBusy => 11 | .restarting => 12 | .queueFull => 13 | .cleared => 14
  | .pendingUnread => 15 | .badCommand => 15

/-- The host class of a reason (R3): codes 1 to 6 are programming refusals, 9 to 14 flow refusals. -/
def Reason.isProgramming : Reason → Bool
  | .noItem | .readOnly | .protection | .badValue | .notIdle | .notInService => true
  | _ => false

/-! ### Host port words -/

/-- HUB_ID (R164). -/
def hubIdWord : Word := 0x000101B8

/-- HUB_FAULT (spec/01, section 1.5). -/
def faultWord (f : FaultRecord) : Word :=
  place f.item 0 ||| place f.reason 16 ||| bitAt f.write 20 ||| bitAt f.priv 21 ||| bitAt f.overflow 22
    ||| place f.count 24

/-! ### Source words (spec/03) -/

def SourceClass.bit : SourceClass → Bool
  | .normal => false | .urgent => true

def Trigger.bit : Trigger → Bool
  | .level => false | .edge => true

/-- SRC_ENTRY as a word (spec/03, section 3.2). -/
def entryWord (e : Entry) : Word :=
  bitAt e.enable 0 ||| bitAt e.cls.bit 1 ||| bitAt e.trigger.bit 2 ||| bitAt e.spreadMode 3
    ||| placeNat e.fixed.val 4 ||| place e.spread 8 ||| place e.level 16 ||| place e.tag 24

/-- The entry a written word carries (spec/03, section 3.2): other bits are ignored. -/
def entryOfWord (w : Word) : Entry where
  enable := w.getLsbD 0
  cls := if w.getLsbD 1 then .urgent else .normal
  trigger := if w.getLsbD 2 then .edge else .level
  spreadMode := w.getLsbD 3
  fixed := toFour (field w 4 2)
  spread := field w 8 4
  level := field w 16 5
  tag := field w 24 8

/-- The state codes of SRC_STATUS and of the snapshot record. -/
def SourceState.code : SourceState → BitVec 3
  | .idle => 0 | .pending => 1 | .active _ => 2 | .activePending _ => 3 | .queued _ => 4

/-- The active target field: 7 when no target holds the source (R44). -/
def SourceState.targetCode : SourceState → Nat
  | .idle | .pending => 7
  | .active t | .activePending t | .queued t => t.val

/-- SRC_STATUS (spec/03, section 3.3). -/
def sourceStatusWord (x : Source) : Word :=
  place x.state.code 0 ||| bitAt x.input 4 ||| placeNat x.state.targetCode 8 ||| place x.merge 16

/-! ### Target words (spec/04) -/

/-- The empty dispatch word (R63, R65). -/
def emptyDispatch : Word := 0x0000003F

/-- The dispatch word (R65): an urgent take has level 0 and depth 0. -/
def dispatchWord (src : SourceId) (level : BitVec 5) (depth : Nat) (tag : Byte) : Word :=
  placeNat src.val 0 ||| place level 8 ||| placeNat depth 16 ||| place tag 24

/-- One half of a TGT_STACK word: an absent position reads as source 63 and level 0 (R71). -/
def stackHalf : Option (SourceId × BitVec 5) → Word
  | none => 0x3F
  | some (src, level) => placeNat src.val 0 ||| place level 8

/-- TGT_STACKk (R71): positions 2k and 2k + 1, counted from the bottom. -/
def stackWord (stack : List (SourceId × BitVec 5)) (k : Fin 4) : Word :=
  stackHalf stack[2 * k.val]? ||| (stackHalf stack[2 * k.val + 1]? <<< 16)

/-- One position of TGT_URGENT_STATUS: 63 when there is no entry (R72). -/
def urgentPos (q : List SourceId) (k : Nat) : Nat :=
  match q[k]? with
  | some src => src.val
  | none => 63

/-- TGT_URGENT_STATUS (R72). -/
def urgentWord (q : List SourceId) (lost : Byte) : Word :=
  placeNat (urgentPos q 0) 0 ||| placeNat (urgentPos q 1) 6 ||| placeNat (urgentPos q 2) 12
    ||| placeNat (urgentPos q 3) 18 ||| place lost 24

/-- The vector base as an address: bits 31:12, low bits zero (R74). -/
def vbaseWord (b : BitVec 20) : Word := place b 12

/-- The dispatch address (R65): the base plus the tag times the stride of 16 shifted left by the stride code, modulo
2^32. -/
def dispatchAddress (base : BitVec 20) (stride : BitVec 3) (tag : Byte) : Word :=
  vbaseWord base + (tag.setWidth 32 * (16#32 <<< stride.toNat))

/-- The restart state's code (R149): 0 RUN, 1 PULSE, 2 HELD. -/
def RunState.code : RunState → BitVec 2
  | .run => 0 | .pulse _ => 1 | .held => 2

/-! ### Line words (spec/05, spec/06) -/

def Parity.code : Parity → BitVec 2
  | .none => 0 | .even => 1 | .odd => 2

/-- LINE_FORMAT (R79). -/
def formatWord (f : Format) : Word :=
  place f.rate 0 ||| bitAt f.seven 4 ||| place f.parity.code 8 ||| bitAt f.twoStop 12

/-- The parity a two-bit field names. The value 3 is refused before it is used (R79). -/
def parityOfCode (c : BitVec 2) : Parity :=
  if c = 1 then .even else if c = 2 then .odd else .none

/-- The format a written word carries (R79). -/
def formatOfWord (w : Word) : Format :=
  ⟨field w 0 3, w.getLsbD 4, parityOfCode (field w 8 2), w.getLsbD 12⟩

def LineRun.code : LineRun → BitVec 2
  | .stopped => 0 | .running => 1 | .draining => 2

/-- LINE_STATUS (R89). -/
def lineStatusWord (x : Line) : Word :=
  place x.state.code 0 ||| bitAt x.tx.isSome 2 ||| placeNat x.prog.rx.length 4 ||| placeNat x.prog.tx.length 10
    ||| placeNat x.serv.rx.length 16 ||| placeNat x.serv.tx.length 22

/-- LINE_CONTROL as read (R81). -/
def lineControlWord (x : Line) : Word := place x.state.code 0

/-- The receive data word of an entry with this many entries left behind it (R86). -/
def rxWord (e : RxEntry) (left : Nat) : Word :=
  place e.value 0 ||| bitAt e.parity 8 ||| bitAt e.framing 9 ||| bitAt e.brk 10 ||| placeNat left 16

/-- The receive data word that a removal from this queue returns (R86), zero when it is empty. -/
def rxHeadWord : List RxEntry → Word
  | [] => 0
  | e :: rest => rxWord e rest.length

/-- LINE_THRESH (R93). -/
def threshWord (x : Line) : Word :=
  place x.rxThresh 0 ||| place x.txThresh 8 ||| bitAt x.interest 16

def Owner.bit : Owner → Bool
  | .program => false | .service => true

/-- LINE_OWNER, with SEIZE_PERMIT at the instant of the read (R99). -/
def ownerWord (x : Line) (permit : Bool) : Word :=
  bitAt x.owner.bit 0 ||| bitAt x.lock 1 ||| bitAt permit 2 ||| bitAt (permit && !x.lock) 3 ||| place x.denied 8

/-- LINE_CTLCHARS (R101). -/
def ctlWord (c : CtlChars) : Word :=
  place c.seize 0 ||| place c.yield 8 ||| place c.attention 16 ||| bitAt c.recognition 24

/-- The control character settings a written word carries (R101). -/
def ctlOfWord (w : Word) : CtlChars := ⟨field w 0 8, field w 8 8, field w 16 8, w.getLsbD 24⟩

/-! ### Sequencer words (spec/07) -/

/-- TSQ_JOB_PLACE (R119). -/
def placeWord (a : Assembly) : Word := place a.offset 0 ||| place a.length 16

/-- TSQ_JOB_MODE (R119). -/
def modeWord (a : Assembly) : Word :=
  place a.tag 0 ||| place a.stopValue 8 ||| bitAt a.stopPresent 16 ||| bitAt a.notify 17
    ||| bitAt a.endOnError 18 ||| bitAt a.haltOnError 19

/-- The assembly after a write of TSQ_JOB_PLACE (R119). -/
def Assembly.withPlace (a : Assembly) (w : Word) : Assembly :=
  { a with offset := field w 0 12, length := field w 16 13 }

/-- The assembly after a write of TSQ_JOB_MODE (R119). -/
def Assembly.withMode (a : Assembly) (w : Word) : Assembly :=
  { a with
    tag := field w 0 8, stopValue := field w 8 8, stopPresent := w.getLsbD 16, notify := w.getLsbD 17
    endOnError := w.getLsbD 18, haltOnError := w.getLsbD 19 }

/-- The job a submission copies from the assembly (R119, R120): without the stop character present field the stop
value is not part of it. -/
def Assembly.job (a : Assembly) : Job where
  tag := a.tag
  offset := a.offset
  length := a.length
  stopChar := if a.stopPresent then some a.stopValue else none
  notify := a.notify
  endOnError := a.endOnError
  haltOnError := a.haltOnError

def JobStatus.code : JobStatus → BitVec 3
  | .count => 1 | .stopChar => 2 | .error => 3 | .brk => 4 | .aborted => 5

/-- The record word (R125), with the number of records in the list at the end of the step. -/
def recordWord (r : Record) (left : Nat) : Word :=
  place r.tag 0 ||| place r.status.code 8 ||| bitAt r.notify 11 ||| placeNat left 12 ||| placeNat r.moved 16

def LaneState.code : LaneState → BitVec 2
  | .idle => 0 | .running _ _ => 1 | .halted => 2 | .waitRecord _ _ => 3

/-- TSQ_LANE_STATUS (spec/07, section 7.2). -/
def laneStatusWord (x : Lane) : Word :=
  place x.state.code 0 ||| placeNat x.queue.length 4 ||| placeNat x.records.length 8
    ||| bitAt (match x.state with | .waitRecord _ _ => true | _ => false) 12
    ||| bitAt (match x.state with | .running _ _ => true | _ => false) 13
    ||| bitAt (match x.state with | .waitRecord _ .halt => true | _ => false) 14
    ||| place x.discarded 16

/-- TSQ_CURRENT (spec/07, section 7.2). -/
def currentWord (x : Lane) : Word :=
  match x.state with
  | .running job moved => place job.tag 0 ||| placeNat moved 16 ||| bitAt true 31
  | _ => 0

/-! ### Timer words (spec/08) -/

/-- TTM_CONFIG (R134). -/
def configWord (x : Timer) : Word :=
  bitAt x.periodic 0 ||| bitAt x.guard 1 ||| bitAt x.escalation.isSome 4
    ||| (match x.escalation with | some t => placeNat t.val 5 | none => 0)

/-- The escalation a written TTM_CONFIG names (R134). -/
def escalationOfWord (w : Word) : Option TargetId :=
  if w.getLsbD 4 then some (toFour (field w 5 2)) else none

def TimerRun.code : TimerRun → BitVec 2
  | .stopped => 0 | .running => 1 | .expired => 2

/-- TTM_STATUS (R140). -/
def timerStatusWord (x : Timer) : Word :=
  place x.state.code 0 ||| bitAt x.mark 4 ||| place x.lost 8

/-! ### Restart words (spec/09) -/

def Cause.code : Cause → BitVec 3
  | .power => 1 | .service => 2 | .host => 3 | .watchdog => 4 | .button => 5

/-- The whole milliseconds to the pulse end, rounded up; 0 in RUN and HELD (R149). -/
def remainingMilli (r : RunState) (now : Nat) : Nat :=
  match r with
  | .pulse ends => (ends - now + (Config.periodsPerMilli - 1)) / Config.periodsPerMilli
  | _ => 0

/-- RSC_TARGETn (R149). -/
def restartWord (x : Restart) (now : Nat) : Word :=
  place x.state.code 0 ||| place x.cause.code 4 ||| place x.count 8 ||| place x.merged 16
    ||| placeNat (remainingMilli x.state now) 24

def ButtonPhase.code : ButtonPhase → BitVec 2
  | .released => 0 | .pressing => 1 | .pressed => 2 | .releasing => 3

/-- RSC_BUTTON, with RESTART_IN at the instant of the read (R149). -/
def buttonWord (x : RestartUnit) (level : Bool) : Word :=
  bitAt level 0 ||| place x.phase.code 1 ||| placeNat x.run 8

/-! ### Service port words (spec/02) -/

/-- The STATUS data word (R23). -/
def postedWord (p : Posted) : Word :=
  place p.arg 16 ||| place p.code 8 ||| place p.result 0

/-- The line that a POP, PUSH, SEIZE_LINE or YIELD_LINE argument names (R21): 0 or 1. -/
def lineOfArg (arg : BitVec 16) : Option LineId :=
  if arg = 0 then some .a else if arg = 1 then some .b else none

/-- The target that a RING or RELEASE_TARGET argument names (R21): 0x0000 to 0x0003. -/
def targetOfArg (arg : BitVec 16) : Option TargetId :=
  if h : arg.toNat < 4 then some ⟨arg.toNat, h⟩ else none

/-- The target and the mode of a RESTART or HOLD argument (R21): the target in the low byte, 0 or 1 in the high
byte. -/
def targetModeOfArg (arg : BitVec 16) : Option (TargetId × Bool) :=
  if h : arg.toNat % 256 < 4 then
    if arg.toNat / 256 = 0 then some (⟨arg.toNat % 256, h⟩, false)
    else if arg.toNat / 256 = 1 then some (⟨arg.toNat % 256, h⟩, true)
    else none
  else none

end Sys2Proof.Machine
end

