-- ==== Sys2Proof/Machine/Ops.lean ====
section
/-! DEFINITION. The named operations over the parts of the state: reading and replacing one source, target, line, lane,
timer or restart record, the staging bytes, and raising an edge. -/

namespace Sys2Proof.Machine

open Sys2Proof

/-! ### One part of the state -/

/-- Source `i`. -/
def State.src (s : State) (i : SourceId) : Source := s.sources[i.val]

/-- The state with source `i` replaced. -/
def State.setSrc (s : State) (i : SourceId) (x : Source) : State :=
  { s with sources := s.sources.set i.val x i.isLt }

/-- The state with source `i` in another state of its state machine. -/
def State.setSrcState (s : State) (i : SourceId) (st : SourceState) : State :=
  s.setSrc i { s.src i with state := st }

/-- Target context `t`. -/
def State.tgt (s : State) (t : TargetId) : Target := s.targets[t.val]

/-- The state with target context `t` replaced. -/
def State.setTgt (s : State) (t : TargetId) (x : Target) : State :=
  { s with targets := s.targets.set t.val x t.isLt }

/-- The restart record of target `t`. -/
def State.restart (s : State) (t : TargetId) : Restart := s.restarts[t.val]

/-- The state with the restart record of target `t` replaced. -/
def State.setRestart (s : State) (t : TargetId) (x : Restart) : State :=
  { s with restarts := s.restarts.set t.val x t.isLt }

/-- Target `t` is in RUN. -/
def State.running (s : State) (t : TargetId) : Bool := decide ((s.restart t).state = .run)

/-- The outputs of target `t`. -/
def State.out (s : State) (t : TargetId) : TargetOut := s.outs[t.val]

/-- The doorbell of target `t`. -/
def State.bell (s : State) (t : TargetId) : Doorbell := s.svc.doorbells[t.val]

/-- The state with the doorbell of target `t` replaced. -/
def State.setBell (s : State) (t : TargetId) (x : Doorbell) : State :=
  { s with svc := { s.svc with doorbells := s.svc.doorbells.set t.val x t.isLt } }

/-- Line `l`. -/
def State.line (s : State) : LineId → Line
  | .a => s.lineA
  | .b => s.lineB

/-- The state with line `l` replaced. -/
def State.setLine (s : State) (l : LineId) (x : Line) : State :=
  match l with
  | .a => { s with lineA := x }
  | .b => { s with lineB := x }

/-- A channel of a line. -/
def Line.chan (x : Line) : Owner → Channel
  | .program => x.prog
  | .service => x.serv

/-- The line with one channel replaced. -/
def Line.setChan (x : Line) (o : Owner) (c : Channel) : Line :=
  match o with
  | .program => { x with prog := c }
  | .service => { x with serv := c }

/-- Lane `n`. -/
def State.lane (s : State) (n : LaneId) : Lane := s.lanes[n.val]

/-- The state with lane `n` replaced. -/
def State.setLane (s : State) (n : LaneId) (x : Lane) : State :=
  { s with lanes := s.lanes.set n.val x n.isLt }

/-- Timer `n`. -/
def State.timer (s : State) (n : TimerId) : Timer := s.timers[n.val]

/-- The state with timer `n` replaced. -/
def State.setTimer (s : State) (n : TimerId) (x : Timer) : State :=
  { s with timers := s.timers.set n.val x n.isLt }

/-- The receive lane of a line (spec/07): lane 0 or 2. -/
def rxLane : LineId → LaneId
  | .a => 0
  | .b => 2

/-- The transmit lane of a line (spec/07): lane 1 or 3. -/
def txLane : LineId → LaneId
  | .a => 1
  | .b => 3

/-- A lane holds a job (R118): it has a current job, is HALTED, or is in WAIT_RECORD. -/
def Lane.holdsJob (x : Lane) : Bool := decide (x.state ≠ .idle)

/-- A transmit lane serves the program transmit queue of its line: lanes 1 and 3 (spec/07). -/
def isTxLane (n : LaneId) : Bool := decide (n.val % 2 = 1)

/-! ### Edges and sticky alert flags -/

/-- Raise one edge on a source in this step (R54). It is applied at the end of the step (R55). -/
def State.raise (s : State) (i : SourceId) : State := { s with raised := s.raised ++ [i] }

/-- Set a sticky alert flag (R30). A flag already set stays set. -/
def State.setSticky (s : State) (bit : Nat) : State :=
  { s with svc := { s.svc with sticky := s.svc.sticky ||| (1#8 <<< bit) } }

/-! ### Staging memory (R116): a list of (address, byte) pairs, addresses strictly rising, no zero byte listed -/

/-- The byte at an address: zero where nothing is listed, the value RESET_N leaves (R116). -/
def readByte : List Host.Cell → Nat → Byte
  | [], _ => 0
  | c :: rest, a => if c.1 = a then c.2 else readByte rest a

/-- Write one byte, keeping the canonical form: a zero byte is removed from the list. -/
def writeByte : List Host.Cell → Nat → Byte → List Host.Cell
  | [], a, b => if b = 0 then [] else [(a, b)]
  | c :: rest, a, b =>
    if a < c.1 then (if b = 0 then c :: rest else (a, b) :: c :: rest)
    else if a = c.1 then (if b = 0 then rest else (a, b) :: rest)
    else c :: writeByte rest a b

/-- The canonical form: addresses strictly rising and below 4096, no zero byte listed. -/
def Memory.wf : List Host.Cell → Bool
  | [] => true
  | c :: rest =>
    decide (c.2 ≠ 0) && decide (c.1 < Config.stagingSize) && rest.all (fun d => decide (c.1 < d.1))
      && Memory.wf rest

/-- Staging word k (R116): the byte at offset 4k + j in bits 8j to 8j + 7. -/
def readStaging (m : List Host.Cell) (k : Nat) : Word :=
  place (readByte m (4 * k)) 0 ||| place (readByte m (4 * k + 1)) 8 ||| place (readByte m (4 * k + 2)) 16
    ||| place (readByte m (4 * k + 3)) 24

/-- Replace the four bytes of staging word k (R116). -/
def writeStaging (m : List Host.Cell) (k : Nat) (w : Word) : List Host.Cell :=
  writeByte (writeByte (writeByte (writeByte m (4 * k) (field w 0 8)) (4 * k + 1) (field w 8 8))
    (4 * k + 2) (field w 16 8)) (4 * k + 3) (field w 24 8)

end Sys2Proof.Machine
end

