-- ==== Sys2Proof/Machine/Flags.lean ====
section
/-! DEFINITION. The flags: the error flags of a channel (R92), the level conditions that feed the LEVEL sources (R39,
R94, R95, R130), the twelve alert flags, SVC_ALERT and the alert summary (R20, R30, R31). -/

namespace Sys2Proof.Machine

open Sys2Proof

/-! ### Error flags of a channel (spec/05, section 5.6) -/

/-- PARITY, FRAMING and BREAK for each mark of an appended entry (R85). -/
def entryFlags (e : RxEntry) : BitVec 5 :=
  (if e.parity then 1 else 0) ||| (if e.framing then 2 else 0) ||| (if e.brk then 8 else 0)

/-- OVERRUN (R85). -/
def overrunFlag : BitVec 5 := 4

/-- ECHO_LOST (R112). -/
def echoLostFlag : BitVec 5 := 16

/-- The channel with some error flags set. -/
def Channel.setFlags (c : Channel) (f : BitVec 5) : Channel := { c with flags := c.flags ||| f }

/-- The channel after a write of its flag item: each flag whose bit is 1 in the word is cleared (R92). -/
def Channel.clearFlags (c : Channel) (w : Word) : Channel := { c with flags := c.flags &&& ~~~(field w 0 5) }

/-! ### Level conditions -/

/-- The input of a line's data source (R94). -/
def Line.dataCond (x : Line) : Bool :=
  decide (x.rxThresh.toNat ≤ x.prog.rx.length)
    || (x.interest && decide (x.txThresh.toNat ≤ Config.queueDepth - x.prog.tx.length))

/-- The input of a line's alarm source (R95). -/
def Line.alarmCond (x : Line) : Bool := decide (x.prog.flags &&& x.alarmMask ≠ 0)

/-- The input of a lane's record-ready source (R130). -/
def Lane.readyCond (x : Lane) : Bool := x.records.any (·.notify)

/-- A lane is HALTED or in WAIT_RECORD (R130). -/
def Lane.faultCond (x : Lane) : Bool :=
  match x.state with
  | .halted | .waitRecord _ _ => true
  | _ => false

/-- The input of source 37 (R130). -/
def State.lanesFault (s : State) : Bool :=
  (s.lane 0).faultCond || (s.lane 1).faultCond || (s.lane 2).faultCond || (s.lane 3).faultCond

/-- The fault record is occupied (R17). -/
def FaultRecord.occupied (f : FaultRecord) : Bool := decide (f.count ≠ 0)

/-- The input that a source has on this state (R37 to R39): the last sample of an XR pin, the condition of an internal
LEVEL source, low for an internal EDGE source. -/
def State.inputOf (s : State) (i : SourceId) : Bool :=
  match i.val with
  | 20 => (s.lane 0).readyCond
  | 21 => (s.lane 1).readyCond
  | 22 => (s.lane 2).readyCond
  | 23 => (s.lane 3).readyCond
  | 24 => s.lineA.dataCond
  | 25 => s.lineA.alarmCond
  | 28 => s.lineB.dataCond
  | 29 => s.lineB.alarmCond
  | 32 => (s.bell 0).unread
  | 33 => (s.bell 1).unread
  | 34 => (s.bell 2).unread
  | 35 => (s.bell 3).unread
  | 36 => s.host.fault.occupied
  | 37 => s.lanesFault
  | n => decide (n < 16) && s.xrSample.getLsbD n

/-! ### Alert flags (spec/02, section 2.5) -/

/-- The four level alert flags at bits 8 to 11 (R30, R95). -/
def State.levelFlags (s : State) : BitVec 12 :=
  (if s.lineA.serv.rx.isEmpty then 0 else 0x100) ||| (if s.lineB.serv.rx.isEmpty then 0 else 0x200)
    ||| (if s.lineA.serv.flags = 0 then 0 else 0x400) ||| (if s.lineB.serv.flags = 0 then 0 else 0x800)

/-- SVC_ALERT_FLAGS: the sticky flags at bits 0 to 7, the level flags above them. -/
def State.alertFlags (s : State) : BitVec 12 := s.svc.sticky.setWidth 12 ||| s.levelFlags

/-- SVC_ALERT: at least one flag set both in the alert set and in the mask (R31). -/
def State.alertOutput (s : State) : Bool := decide (s.alertFlags &&& s.svc.mask ≠ 0)

/-- Bit numbers of the sticky flags. -/
def attnBit : LineId → Nat
  | .a => 0
  | .b => 1

def reclaimBit : LineId → Nat
  | .a => 2
  | .b => 3

def deniedBit : LineId → Nat
  | .a => 4
  | .b => 5

def watchdogBit : Nat := 6

def postedRefusedBit : Nat := 7

/-- The alert summary of byte 0 (R20): the flags before masking, and the output SVC_ALERT in bit 7. -/
def State.alertSummary (s : State) : Byte :=
  let f := s.alertFlags
  let b (c : Bool) (n : Nat) : Byte := (BitVec.ofBool c).setWidth 8 <<< n
  b s.svc.alert 7 ||| b (f.getLsbD 10 || f.getLsbD 11) 6 ||| b (f.getLsbD 8 || f.getLsbD 9) 5
    ||| b (f.getLsbD 7) 4 ||| b (f.getLsbD 6) 3 ||| b (f.getLsbD 4 || f.getLsbD 5) 2
    ||| b (f.getLsbD 2 || f.getLsbD 3) 1 ||| b (f.getLsbD 0 || f.getLsbD 1) 0

/-- SVC_DOORBELL_STATUS (spec/02, section 2.6): bit t is the unread flag of target t. -/
def State.doorbellStatus (s : State) : Word :=
  bitAt (s.bell 0).unread 0 ||| bitAt (s.bell 1).unread 1 ||| bitAt (s.bell 2).unread 2
    ||| bitAt (s.bell 3).unread 3

/-! ### Parity of a character -/

/-- The data bits and the parity bit together hold an odd number of ones (R83, R91). -/
def oddOnes (v : Byte) (p : Bool) : Bool :=
  Bool.xor (Bool.xor (Bool.xor (v.getLsbD 0) (v.getLsbD 1)) (Bool.xor (v.getLsbD 2) (v.getLsbD 3)))
    (Bool.xor (Bool.xor (Bool.xor (v.getLsbD 4) (v.getLsbD 5)) (Bool.xor (v.getLsbD 6) (v.getLsbD 7))) p)

/-- The data bits of a character under a format: bit 7 zero in seven-bit format (R83, R90). -/
def Format.dataValue (f : Format) (v : Byte) : Byte := if f.seven then v &&& 0x7F else v

end Sys2Proof.Machine
end

