-- ==== Sys2Proof/Machine/Frames.lean ====
section
/-! DEFINITION. The bits of a service frame (R19 to R22, R25): what the hub samples and assembles, which command a frame
carries and where that command executes, and how the levels of SVC_SEL, SVC_CLK and SVC_DIN move the frame parser. -/

namespace Sys2Proof.Machine

open Sys2Proof

/-! ### Bits and words, most significant bit first (spec/02, section 2.1) -/

/-- The word that a run of bits assembles, the first bit the most significant (R20). -/
def wordOfBits (n : Nat) (bits : List Bool) : BitVec n :=
  bits.foldl (fun w b => w <<< 1 ||| (BitVec.ofBool b).setWidth n) 0

/-- The bits of a word in the order of transfer. -/
def bitsOfWord {n : Nat} (w : BitVec n) : List Bool := (List.range n).map w.getMsbD

/-- The command code of byte 0 (R20). -/
def Frame.code (f : Frame) : Byte := wordOfBits 8 (f.bits.take 8)

/-- The argument of bytes 1 and 2, high byte first (R20). -/
def Frame.arg (f : Frame) : BitVec 16 := wordOfBits 16 ((f.bits.drop 8).take 16)

/-- The data word of bytes 4 to 7 (R20): byte 3 is ignored. -/
def Frame.word (f : Frame) : Word := wordOfBits 32 ((f.bits.drop 32).take 32)

/-- The 64 bits of a frame with this code, argument and data word; byte 3, which is ignored, as zeros. -/
def frameBits (code : Byte) (arg : BitVec 16) (data : Word) : List Bool :=
  bitsOfWord code ++ bitsOfWord arg ++ bitsOfWord (0 : Byte) ++ bitsOfWord data

/-! ### Commands (R21) -/

/-- The codes of the read-type commands STATUS, READ, POP and SNAPSHOT. -/
def isReadCode (code : Byte) : Bool := decide (code.toNat < 4)

/-- The bits after which a frame's command executes: byte 2 for a read-type command, byte 7 for a write-type command or
an unknown code. -/
def executionBits (code : Byte) : Nat := if isReadCode code then 24 else 64

/-- The command of a frame, by its code (R21). -/
def commandOf (m : Moment) (code : Byte) (arg : BitVec 16) (data : Word) : Instr :=
  match code.toNat with
  | 0x00 => .status m arg
  | 0x01 => .read m arg
  | 0x02 => .pop m arg
  | 0x03 => .snapshot m arg
  | 0x10 => .write m arg data
  | 0x11 => .push m arg data
  | 0x20 => .seizeLine m arg data
  | 0x21 => .yieldLine m arg data
  | 0x30 => .ring m arg data
  | 0x31 => .restart m arg data
  | 0x32 => .releaseTarget m arg data
  | 0x33 => .hold m arg data
  | 0x40 => .alertClear m arg data
  | 0x7F => .clearAll m arg data
  | _ => .badCommand m code arg data

/-- The frame has reached the execution point of its command, which has not executed yet (R21). -/
def Frame.due (f : Frame) : Bool := !f.executed && decide (executionBits f.code ≤ f.bits.length)

/-- The service port's frame is due to execute. -/
def ServicePort.frameDue (v : ServicePort) : Bool := v.frame.any Frame.due

/-! ### The parser (R19, R22, R24, R25) -/

/-- The status byte of a write-type or unknown frame (R22): SVC_ALERT and the posted result as they stand. -/
def State.writeStatus (s : State) : Byte :=
  (BitVec.ofBool s.svc.alert).setWidth 8 <<< 7 ||| 0x40 ||| s.svc.posted.result.setWidth 8

/-- A frame that begins (R19) with this alert summary (R20). -/
def Frame.begun (summary : Byte) : Frame := ⟨[], false, summary, none, 0⟩

/-- One more bit (R19), the last of byte 2 of a write-type or unknown frame with its status byte (R22); after bit 63
nothing more is sampled (R25). -/
def Frame.sample (f : Frame) (din : Bool) (status : Byte) : Frame :=
  if f.bits.length < Config.frameBits then
    let g := { f with bits := f.bits ++ [din] }
    if g.bits.length = 24 ∧ isReadCode g.code = false then { g with status := some status } else g
  else f

/-- The release of SVC_SEL (R19): it ends the frame, and the wait of a hub that found SVC_SEL asserted at the release of
RESET_N; a frame of fewer than 64 bits is aborted (R24). -/
def ServicePort.release (v : ServicePort) : ServicePort :=
  { v with
    sel := false
    waitRelease := false
    frame := none
    aborts := if v.frame.any (fun f => decide (f.bits.length < Config.frameBits)) then v.aborts + 1 else v.aborts }

/-- The service port looks at its pins (R19): SVC_SEL asserted begins a frame; a rising edge of SVC_CLK completes a bit of
the frame, and is ignored without one; SVC_SEL released ends the frame, after that bit (R152), and after the command that
this bit makes due. -/
def ServicePort.see (v : ServicePort) (p : Pins) (summary status : Byte) : ServicePort :=
  let v₁ := if p.svcSel && !v.sel then { v with sel := true, frame := some (.begun summary) } else v
  let v₂ : ServicePort :=
    if p.svcClk && !v.clk && v₁.sel then { v₁ with frame := v₁.frame.map fun f => f.sample p.svcDin status } else v₁
  let v₃ := { v₂ with clk := p.svcClk }
  if v.sel && !p.svcSel && !v₃.frameDue then v₃.release else v₃

/-- The service port has looked at the pins of this instant, at its own position among the steps (R152): the alert
summary and the status byte of a write-type frame are those of this state. -/
def State.look (s : State) : State :=
  { s with svc := if s.inReset then s.svc else s.svc.see s.pins s.alertSummary s.writeStatus }

/-- The moment of a step of the hub's own: this instant, with the pins as they are. -/
def State.here (s : State) : Moment := ⟨0, s.pins⟩

/-- The command that the frame in progress makes due (R21). -/
def State.frameCommand (s : State) : Option Instr :=
  match s.svc.frame with
  | none => none
  | some f => if f.due then some (commandOf s.here f.code f.arg f.word) else none

/-- The level of SVC_DOUT (R19, R20, R25): after k completed bits, bit k of the reply: byte 0 the alert summary, bytes 1
and 2 zero, byte 3 the status byte, bytes 4 to 7 the data, each most significant bit first; zero after bit 63, low outside
a frame and while RESET_N is low. -/
def State.svcDout (s : State) : Bool :=
  match s.svc.frame with
  | none => false
  | some f =>
    let k := f.bits.length
    if s.inReset || !s.pins.svcSel then false
    else if k < 8 then f.summary.getMsbD k
    else if k < 24 then false
    else if k < 32 then (f.status.getD 0).getMsbD (k - 24)
    else if k < 64 then f.data.getMsbD (k - 32)
    else false

end Sys2Proof.Machine
end

