-- ==== Sys2Proof/Machine/Sources.lean ====
section
/-! DEFINITION. The source table (spec/03): the two state machines, enabling and disabling, leaving service, and the
activations at the end of a step. -/

namespace Sys2Proof.Machine

open Sys2Proof

/-! ### Edges (R46, R51, R52) -/

/-- A source with one more merge (R46, R51). -/
def Source.merged (x : Source) : Source := { x with merge := satInc x.merge }

/-- An edge on an enabled NORMAL EDGE source (R46). QUEUED belongs to no NORMAL source. -/
def Source.normalEdge (x : Source) : Source :=
  match x.state with
  | .idle => { x with state := .pending }
  | .pending => x.merged
  | .active t => { x with state := .activePending t }
  | .activePending _ => x.merged
  | .queued _ => x

/-- An activation of an enabled URGENT source in IDLE (R52): appended to the urgent queue of its fixed target, or
dropped into URGENT_LOST. -/
def admitUrgent (s : State) (i : SourceId) : State :=
  let f := (s.src i).entry.fixed
  let x := s.tgt f
  if x.urgent.length < Config.urgentDepth ∧ s.running f then
    (s.setSrcState i (.queued f)).setTgt f { x with urgent := x.urgent ++ [i] }
  else
    s.setTgt f { x with lost := satInc x.lost }

/-- An activation of an enabled URGENT source (R51). -/
def urgentEdge (s : State) (i : SourceId) : State :=
  match (s.src i).state with
  | .idle => admitUrgent s i
  | .queued _ => s.setSrc i (s.src i).merged
  | _ => s

/-- One edge on source `i` (R46, R51). A disabled source ignores it, and so does a NORMAL source whose trigger is
LEVEL. -/
def applyEdge (s : State) (i : SourceId) : State :=
  let e := (s.src i).entry
  if e.enable = false then s
  else
    match e.cls, e.trigger with
    | .normal, .level => s
    | .normal, .edge => s.setSrc i (s.src i).normalEdge
    | .urgent, _ => urgentEdge s i

/-- Several edges on one source, one after another (R55). -/
def applyEdges : Nat → State → SourceId → State
  | 0, s, _ => s
  | n + 1, s, i => applyEdges n (applyEdge s i) i

/-! ### Levels (R47) -/

/-- An enabled NORMAL LEVEL source follows its input (R47). -/
def Source.followInput (x : Source) : Source :=
  if x.entry.enable ∧ x.entry.cls = .normal ∧ x.entry.trigger = .level then
    match x.state, x.input with
    | .idle, true => { x with state := .pending }
    | .pending, false => { x with state := .idle }
    | _, _ => x
  else x

/-! ### The end of a step (R55) -/

/-- How many activations reach source `i` at the end of the step: for an URGENT LEVEL source the rise of its input, for
every other source the edges raised for it (R51, R55). -/
def activations (s : State) (i : SourceId) : Nat :=
  let x := s.src i
  if x.entry.cls = .urgent ∧ x.entry.trigger = .level then
    if s.inputOf i && !x.input then 1 else 0
  else s.raised.count i

/-- The activations of one source (R55): its input, then its edges, then its level. -/
def activate (s : State) (i : SourceId) : State :=
  let n := activations s i
  let s₁ := s.setSrc i { s.src i with input := s.inputOf i }
  let s₂ := applyEdges n s₁ i
  s₂.setSrc i (s₂.src i).followInput

/-- The sources in ascending number. -/
def allSources : List SourceId := List.finRange 38

/-- The activations of a step, source by source in ascending number (R55). -/
def activateAll (s : State) : State := allSources.foldl activate s

/-! ### Leaving service (R48) -/

/-- A source leaves service by a completion or by the beginning of a restart (R48). -/
def Source.leaveService (x : Source) : Source :=
  match x.entry.trigger, x.state with
  | .edge, .active _ => { x with state := .idle }
  | .edge, .activePending _ => { x with state := .pending }
  | .level, .active _ | .level, .activePending _ =>
    { x with state := if x.entry.enable && x.input then .pending else .idle }
  | _, _ => x

/-! ### Writes (R41 to R45, R49) -/

/-- The fixed trigger of sources 16 to 37 (R37): none for the XR sources. -/
def fixedTrigger (i : SourceId) : Option Trigger :=
  if i.val < 16 then none
  else if i.val < 20 ∨ i.val = 26 ∨ i.val = 27 ∨ i.val = 30 ∨ i.val = 31 then some .edge
  else some .level

/-- A written entry breaks a value rule (R41). -/
def entryBadValue (i : SourceId) (e : Entry) : Bool :=
  (match fixedTrigger i with
    | none => false
    | some tr => decide (e.trigger ≠ tr))
  || (decide (e.cls = .urgent) && e.spreadMode)
  || (e.spreadMode && decide (e.spread = 0))

/-- A write of this entry is accepted (R42): the source is quiet, or the word changes only the enable field. -/
def Source.acceptsEntry (x : Source) (e : Entry) : Bool :=
  (!x.entry.enable && decide (x.state = .idle)) || decide ({ e with enable := x.entry.enable } = x.entry)

/-- Clearing the enable of a NORMAL source discards a recorded activation (R49); a QUEUED source stays (R53). -/
def SourceState.disabled : SourceState → SourceState
  | .pending => .idle
  | .activePending t => .active t
  | st => st

/-- An accepted write of SRC_ENTRY (R43, R49). -/
def Source.writeEntry (x : Source) (e : Entry) : Source :=
  { x with
    entry := e
    state := if x.entry.enable && !e.enable then x.state.disabled else x.state }

/-- The entry a source has after RESET_N and CLEAR_ALL (R40). -/
def powerOnEntry (i : SourceId) : Entry :=
  Entry.powerOn i (match fixedTrigger i with | some tr => tr | none => .level)

end Sys2Proof.Machine
end

