-- ==== Sys2Proof/Machine/Targets.lean ====
section
/-! DEFINITION. The target contexts (spec/04): CPL, candidate and offer, the outputs, the two takes, completion, and
the clearing of a context when a restart begins. -/

namespace Sys2Proof.Machine

open Sys2Proof

/-! ### The offer computation -/

/-- The CPL: the larger of the floor and the level of the top of the stack (R59). -/
def Target.cpl (x : Target) : BitVec 5 :=
  match x.stack.getLast? with
  | none => x.floor
  | some top => if x.floor < top.2 then top.2 else x.floor

/-- A source's routing reaches target `t` (R50). -/
def Entry.eligible (e : Entry) (t : TargetId) : Bool :=
  if e.spreadMode then inSet e.spread t else decide (e.fixed = t)

/-- A source is presentable to target `t` (R50). -/
def Source.presentable (x : Source) (t : TargetId) : Bool :=
  x.entry.enable && decide (x.entry.cls = .normal) && decide (x.state = .pending)
    && decide (x.entry.level ≠ 0) && x.entry.eligible t

/-- The better of the best source so far and source `i`: only a higher level displaces a lower number (R60). -/
def better (s : State) (t : TargetId) (best : Option SourceId) (i : SourceId) : Option SourceId :=
  if (s.src i).presentable t then
    match best with
    | none => some i
    | some j => if (s.src j).entry.level < (s.src i).entry.level then some i else some j
  else best

/-- The candidate of target `t` (R60): the highest level, and among equals the lowest number. -/
def State.candidate (s : State) (t : TargetId) : Option SourceId := allSources.foldl (better s t) none

/-- Conditions 2 to 4 of an offer, and condition 1 for a candidate at this level (R61). -/
def State.offerable (s : State) (t : TargetId) (level : BitVec 5) : Bool :=
  decide ((s.tgt t).cpl < level) && decide ((s.tgt t).stack.length < Config.stackDepth)
    && !(s.tgt t).hold && s.running t

/-- The offered source of target `t`, if it has an offer (R61). -/
def State.offer (s : State) (t : TargetId) : Option SourceId :=
  match s.candidate t with
  | none => none
  | some i => if s.offerable t (s.src i).entry.level then some i else none

/-- The offer level: 0 when there is none (R61). -/
def State.offerLevel (s : State) (t : TargetId) : BitVec 5 :=
  match s.offer t with
  | none => 0
  | some i => (s.src i).entry.level

/-- TGT_URG of target `t` (R62). -/
def State.urgentOut (s : State) (t : TargetId) : Bool := !(s.tgt t).urgent.isEmpty && s.running t

/-- The outputs of target `t` on this state (R62, R143). -/
def State.outputOf (s : State) (t : TargetId) : TargetOut where
  irq := (s.offer t).isSome
  lvl := s.offerLevel t
  urg := s.urgentOut t
  rst := !s.running t

/-- Set the outputs of all four targets to match (R62). -/
def State.setOutputs (s : State) : State :=
  { s with outs := #v[s.outputOf 0, s.outputOf 1, s.outputOf 2, s.outputOf 3] }

/-! ### Words read from a context (R63, R70 to R72) -/

/-- TGT_OFFER (R70). -/
def State.offerWord (s : State) (t : TargetId) : Word :=
  match s.candidate t with
  | none => 63
  | some i => placeNat i.val 0 ||| place (s.src i).entry.level 8 ||| bitAt (s.offer t).isSome 16

/-- TGT_STATE (R71). -/
def State.stateWord (s : State) (t : TargetId) : Word :=
  place (s.tgt t).cpl 0 ||| placeNat (s.tgt t).stack.length 5 ||| bitAt (s.tgt t).hold 9
    ||| place (s.restart t).state.code 10 ||| placeNat (s.tgt t).urgent.length 12
    ||| bitAt (s.offer t).isSome 16 ||| bitAt (s.urgentOut t) 17

/-- The word that a read of TGT_TAKE returns (R64, R65), the empty dispatch word without an offer (R63, R26). -/
def State.takeWord (s : State) (t : TargetId) : Word :=
  match s.offer t with
  | none => emptyDispatch
  | some i => dispatchWord i (s.src i).entry.level ((s.tgt t).stack.length + 1) (s.src i).entry.tag

/-- The word that a read of TGT_TAKE_URGENT returns (R67, R65). -/
def State.takeUrgentWord (s : State) (t : TargetId) : Word :=
  if s.running t then
    match (s.tgt t).urgent with
    | [] => emptyDispatch
    | i :: _ => dispatchWord i 0 0 (s.src i).entry.tag
  else emptyDispatch

/-! ### Taking and completing -/

/-- Target `t` takes source `i` (R64): the source becomes ACTIVE, is pushed, the dispatch address is formed and the
take is counted. -/
def takeSource (s : State) (t : TargetId) (i : SourceId) : State :=
  let e := (s.src i).entry
  let x := s.tgt t
  (s.setSrcState i (.active t)).setTgt t
    { x with
      stack := x.stack ++ [(i, e.level)]
      dispatch := dispatchAddress x.vbase x.vstride e.tag
      takes := x.takes + 1 }

/-- TGT_TAKE of a target in RUN (R63, R64): takes the offered source, if there is an offer. -/
def takeOffer (s : State) (t : TargetId) : State :=
  match s.offer t with
  | none => s
  | some i => takeSource s t i

/-- TGT_TAKE_URGENT of a target in RUN (R67): removes the head of the urgent queue. -/
def takeUrgent (s : State) (t : TargetId) : State :=
  match (s.tgt t).urgent with
  | [] => s
  | i :: rest => (s.setSrcState i .idle).setTgt t { s.tgt t with urgent := rest }

/-- The source is in this service stack. -/
def inStack (stack : List (SourceId × BitVec 5)) (i : SourceId) : Bool := stack.any (fun e => decide (e.1 = i))

/-- The source number of a written TGT_DONE: bits 5:0, if they name a source (R68). -/
def doneSource (w : Word) : Option SourceId :=
  if h : (field w 0 6).toNat < 38 then some ⟨(field w 0 6).toNat, h⟩ else none

/-- Completion of source `i` by target `t` (R69): its entry leaves the stack wherever it stands and the source leaves
service. -/
def completeSource (s : State) (t : TargetId) (i : SourceId) : State :=
  let x := s.tgt t
  (s.setSrc i (s.src i).leaveService).setTgt t { x with stack := x.stack.filter (fun e => decide (e.1 ≠ i)) }

/-! ### The clearing of a context (R77) -/

/-- Every source of a stack leaves service (R77). -/
def releaseStack (s : State) (stack : List (SourceId × BitVec 5)) : State :=
  stack.foldl (fun st e => st.setSrc e.1 (st.src e.1).leaveService) s

/-- Every source of an urgent queue becomes IDLE (R53, R77). -/
def flushUrgent (s : State) (queue : List SourceId) : State :=
  queue.foldl (fun st i => st.setSrcState i .idle) s

/-- Restart entry clears the event context of `t` (R77): stack released, urgent queue flushed, floor and last dispatch
address 0; hold, vectors, URGENT_LOST and take count kept. -/
def clearContext (s : State) (t : TargetId) : State :=
  let x := s.tgt t
  (flushUrgent (releaseStack s x.stack) x.urgent).setTgt t
    { x with stack := [], urgent := [], floor := 0, dispatch := 0 }

end Sys2Proof.Machine
end

