-- ==== Sys2Proof/Machine/EndOfStep.lean ====
section
/-! DEFINITION. How every step is framed (R151): what it finds at its instant, its action, and its end of step. -/

namespace Sys2Proof.Machine

open Sys2Proof

/-- The end of a step (R151): the activations in ascending source number on the inputs the action left (R39, R55), the
offers and outputs of the four targets (R62), SVC_ALERT (R31). -/
def endOfStep (s : State) : State :=
  let s₁ := ({ activateAll s with raised := [] } : State).setOutputs
  { s₁ with svc := { s₁.svc with alert := s₁.alertOutput } }

/-! ### What a step finds -/

/-- HREQ seen released after the completion: the transaction is over and HDONE and HREFUSE go (R1). -/
def HostPort.seeReq (h : HostPort) (hreq : Bool) : HostPort :=
  match h.phase with
  | .completed => if hreq then h else { h with phase := .idle, hdone := false, hrefuse := false }
  | _ => h

/-- A new instant begins (R152): no position has been passed and no round of moves has begun. -/
def Sched.newInstant (x : Sched) : Sched := { x with passed7 := false, passed8 := false, moved := [] }

/-- The state at the instant of a moment, before the service port has looked at its pins there: the clock, the pins and
the host bus. The service port has looked at the pins of the instant before. -/
def State.arrive (m : Moment) (s : State) : State :=
  { s with
    now := s.now + m.gap
    pins := m.pins
    sched := if m.gap = 0 then s.sched else s.sched.newInstant
    host := s.host.seeReq m.pins.hreq
    svc := if m.gap = 0 then s.svc else s.look.svc
    raised := [] }

/-- The state as a step of position 5 to 9 at this moment finds it (R152): the service port has looked at its pins. -/
def State.enter (m : Moment) (s : State) : State := (s.arrive m).look

/-- One step (R151) of position 5 to 9: unless RESET_N is low (R155), the action on what the step finds, then the end of
step. While RESET_N is low no step of any kind is taken; only the pins move. -/
def takeStep (m : Moment) (action : State → State) (s : State) : State :=
  if s.inReset then { s with pins := m.pins } else endOfStep (action (s.enter m))

/-- One step of position 2 or 3, or the completion of a held request, which comes ahead of all (R152): the service port
looks at its pins of this instant only after it. -/
def takeEarlyStep (m : Moment) (action : State → State) (s : State) : State :=
  if s.inReset then { s with pins := m.pins } else endOfStep (action (s.arrive m))

/-- Bring the clock up to the instant at which a step of the hub's own is due (log 2). -/
def State.advanceTo (s : State) (instant : Nat) : State :=
  if s.now < instant then { s with now := instant, sched := s.sched.newInstant } else s

/-- The index of the next due instant of a base (R153): the first multiple of `period` after the last one taken that
does not lie in the past; `since` is the time since the base's origin. -/
def nextIndex (last since period : Nat) : Nat := max (last + 1) ((since + (period - 1)) / period)

end Sys2Proof.Machine
end

