-- ==== Sys2Proof/Machine/Lines.lean ====
section
/-! DEFINITION. The serial lines (spec/05) and the ownership arbiter (spec/06): line states, the receiver, received
frames, control characters, echo, the transmitter. -/

namespace Sys2Proof.Machine

open Sys2Proof

/-! ### Bit timing (R79, R82, R91) -/

/-- The bit time of a rate in REFCLK periods (R79). -/
def bitTime (rate : BitVec 3) : Nat :=
  match rate.toNat with
  | 0 => 26667 | 1 => 13333 | 2 => 6667 | 3 => 3333 | 4 => 1667 | 5 => 833 | 6 => 556 | _ => 278

def Format.dataBits (f : Format) : Nat := if f.seven then 7 else 8

def Format.parityBits (f : Format) : Nat := if f.parity = .none then 0 else 1

/-- The bits of a sent frame: start, data, parity, stop bits (R91). -/
def Format.sentLength (f : Format) : Nat :=
  1 + f.dataBits + f.parityBits + (if f.twoStop then 2 else 1)

/-- The bits a receiver samples after the start bit: data, parity, the first stop bit (R83). -/
def Format.sampledLength (f : Format) : Nat := f.dataBits + f.parityBits + 1

/-- The parity bit that is sent with a value (R91). -/
def Format.parityBit (f : Format) (v : Byte) : Bool :=
  match f.parity with
  | .none => true
  | .even => oddOnes (f.dataValue v) false
  | .odd => !oddOnes (f.dataValue v) false

/-- The levels of a sent frame in order (R91): `true` is mark. -/
def Format.sentBits (f : Format) (v : Byte) : List Bool :=
  [false] ++ (List.range f.dataBits).map (fun k => v.getLsbD k)
    ++ (if f.parity = .none then [] else [f.parityBit v])
    ++ (if f.twoStop then [true, true] else [true])

/-- The transmit pin of a line at an instant (R90, R91): mark while the transmitter is idle. -/
def Line.txd (x : Line) (now : Nat) : Bool :=
  match x.tx with
  | none => true
  | some c => (x.format.sentBits c.value)[(now - c.started) / bitTime x.format.rate]?.getD true

/-- LA_TXD and LB_TXD (R155: mark while RESET_N is low). -/
def State.txd (s : State) (l : LineId) : Bool := s.inReset || (s.line l).txd s.now

/-- The instant at which the transmitter's character ends (R91). -/
def Line.txEnd (x : Line) (c : TxChar) : Nat := c.started + x.format.sentLength * bitTime x.format.rate

/-! ### Line state (R80) -/

/-- A start command (R80): the receiver of a line that was not RUNNING waits for mark on a new sample grid (R82). -/
def Line.started (x : Line) (now : Nat) : Line :=
  match x.state with
  | .running => x
  | _ => { x with state := .running, rx := ⟨.waitMark, now, 0, now⟩ }

/-- A stop command (R80): the receiver stops at once; a character in the transmitter is drained. -/
def Line.stopped (x : Line) : Line :=
  match x.state with
  | .running =>
    { x with state := if x.tx.isSome then .draining else .stopped, rx := { x.rx with phase := .off } }
  | _ => x

/-- A channel with empty queues and clear flags; its echo setting is kept (R96). -/
def Channel.cleared (c : Channel) : Channel := { c with rx := [], tx := [], flags := 0 }

/-- Points 1 to 4 of LINE_CLEAR (R96). The receiver begins afresh on its grid. -/
def Line.cleared (x : Line) (now : Nat) : Line :=
  { x with
    prog := x.prog.cleared
    serv := x.serv.cleared
    tx := none
    state := if x.state = .draining then .stopped else x.state
    rx := { x.rx with phase := if x.state = .running then .waitMark else .off, fresh := now } }

/-! ### The receiver (R82 to R84) -/

/-- The data value of sampled bits, least significant first. -/
def byteOfBits (bits : List Bool) : Byte :=
  bits.foldr (fun b acc => (acc <<< 1) ||| (BitVec.ofBool b).setWidth 8) 0

/-- The frame that a receiver's samples form (R83). -/
def rawOfBits (f : Format) (bits : List Bool) : RawFrame where
  data := byteOfBits (bits.take f.dataBits)
  parity := bits[f.dataBits]?.getD false
  stop := bits.getLastD false

/-- The receiver's condition after a sample of its pin (R82, R83, R84). A receiver whose frame is complete waits for
its completion step. -/
def RxPhase.sample (f : Format) (p : RxPhase) (mark : Bool) : RxPhase :=
  match p with
  | .off => .off
  | .waitMark => if mark then .hunting else .waitMark
  | .hunting => if mark then .hunting else .checking 0
  | .checking n =>
    if n + 1 = 8 then (if mark then .hunting else .inFrame 0 []) else .checking (n + 1)
  | .inFrame n bits =>
    if n + 1 = 16 then
      if bits.length + 1 = f.sampledLength then .complete (rawOfBits f (bits ++ [mark]))
      else .inFrame 0 (bits ++ [mark])
    else .inFrame (n + 1) bits
  | .complete raw => .complete raw
  | .postBreak n => if mark then (if n + 1 = 16 then .hunting else .postBreak (n + 1)) else .postBreak 0

/-- The index of the receiver's next sample on its grid (R82): the first one after the last taken that does not lie in
the past. -/
def Line.nextSample (x : Line) (now : Nat) : Nat :=
  max (x.rx.index + 1)
    ((16 * (now - x.rx.origin) + (bitTime x.format.rate - 1)) / bitTime x.format.rate)

/-- The instant of sample k (R82). -/
def Line.sampleInstant (x : Line) (k : Nat) : Nat := x.rx.origin + k * bitTime x.format.rate / 16

/-- The level of a line's receive pin. -/
def rxdLevel (p : Pins) : LineId → Bool
  | .a => p.rxdA
  | .b => p.rxdB

/-- One sample of the receiver of line `l` (R82): nothing while the receiver is off. -/
def sampleReceiver (s : State) (l : LineId) : State :=
  let x := s.line l
  if x.state = .running then
    let k := x.nextSample s.now
    (s.advanceTo (x.sampleInstant k)).setLine l
      { x with rx := { x.rx with phase := x.rx.phase.sample x.format (rxdLevel s.pins l), index := k } }
  else s

/-- The entry that a received frame forms (R83): a break frame, or a character frame with its marks. -/
def judge (f : Format) (raw : RawFrame) : RxEntry :=
  let v := f.dataValue raw.data
  let perr := match f.parity with
    | .none => false
    | .even => oddOnes v raw.parity
    | .odd => !oddOnes v raw.parity
  let ferr := !raw.stop
  if ferr = true ∧ v = 0 ∧ (f.parity = .none ∨ raw.parity = false) then ⟨0, false, false, true⟩
  else ⟨v, perr, ferr, false⟩

/-- How the receiver continues after a completion (R84). -/
def phaseAfter (e : RxEntry) : RxPhase :=
  if e.brk then .postBreak 0 else if e.framing then .waitMark else .hunting

/-! ### Storing an entry, and echo (R85, R112) -/

/-- The entry carries no mark. -/
def RxEntry.unmarked (e : RxEntry) : Bool := !e.parity && !e.framing && !e.brk

/-- The channel after the echo of an appended entry (R112). -/
def Channel.echoed (c : Channel) (e : RxEntry) : Channel :=
  if c.echo && e.unmarked then
    if c.tx.length < Config.queueDepth then { c with tx := c.tx ++ [e.value] }
    else c.setFlags echoLostFlag
  else c

/-- The channel after it receives an entry (R85): appended with its flags and echo, or dropped with OVERRUN. -/
def Channel.receive (c : Channel) (e : RxEntry) : Channel :=
  if c.rx.length < Config.queueDepth then
    (({ c with rx := c.rx ++ [e] } : Channel).setFlags (entryFlags e)).echoed e
  else c.setFlags overrunFlag

/-- The entry goes to the channel that owns the line (R85, R98). -/
def Line.storeEntry (x : Line) (e : RxEntry) : Line := x.setChan x.owner ((x.chan x.owner).receive e)

/-! ### Ownership (spec/06) -/

/-- The line's attention source: 26 or 30 (R104). -/
def attentionSource : LineId → SourceId
  | .a => 26
  | .b => 30

/-- The line's ownership change source: 27 or 31 (R109). -/
def ownershipSource : LineId → SourceId
  | .a => 27
  | .b => 31

/-- A seize of the line is permitted (R100): SEIZE_PERMIT high at this step and the seize lock 0. -/
def State.seizePermitted (s : State) (l : LineId) : Bool := s.pins.seizePermit && !(s.line l).lock

/-- A change of owner (R109): the owner and one edge on the ownership change source, nothing else. -/
def changeOwner (s : State) (l : LineId) (o : Owner) : State :=
  (s.setLine l { s.line l with owner := o }).raise (ownershipSource l)

/-- A denied seize (R102, R108): counted, and DENIED_x set. -/
def denySeize (s : State) (l : LineId) : State :=
  (s.setLine l { s.line l with denied := satInc (s.line l).denied }).setSticky (deniedBit l)

/-- A seize is denied (R102, R108): the owner is PROGRAM and the seize is not permitted. -/
def State.seizeDenied (s : State) (l : LineId) : Bool :=
  decide ((s.line l).owner = .program) && !s.seizePermitted l

/-- A seize of the line, by character or by SEIZE_LINE (R102, R108). -/
def seize (s : State) (l : LineId) : State :=
  match (s.line l).owner with
  | .service => s
  | .program => if s.seizePermitted l then changeOwner s l .service else denySeize s l

/-- A yield of the line, by character or by YIELD_LINE (R103, R108). -/
def yieldLine (s : State) (l : LineId) : State :=
  match (s.line l).owner with
  | .service => changeOwner s l .program
  | .program => s

/-- An ATTENTION character (R104): one edge and ATTN_x. -/
def attention (s : State) (l : LineId) : State := (s.raise (attentionSource l)).setSticky (attnBit l)

/-- RELEASE_LINE (R105). -/
def releaseLine (s : State) (l : LineId) : State :=
  match (s.line l).owner with
  | .program => changeOwner s l .service
  | .service => s

/-- RECLAIM_LINE (R106): the owner becomes PROGRAM, RECLAIM_x if it was SERVICE, and the lock is set. -/
def reclaimLine (s : State) (l : LineId) : State :=
  let s₁ := match (s.line l).owner with
    | .service => (changeOwner s l .program).setSticky (reclaimBit l)
    | .program => s
  s₁.setLine l { s₁.line l with lock := true }

/-- UNLOCK_SEIZE (R107). -/
def unlockSeize (s : State) (l : LineId) : State := s.setLine l { s.line l with lock := false }

/-- The control characters (spec/06, section 6.4). -/
inductive Ctl where
  | seize | yield | attention
  deriving DecidableEq, Repr

/-- Recognition of a received frame (R101): recognition on, an unmarked character frame, one of the three values. -/
def CtlChars.recognise (c : CtlChars) (e : RxEntry) : Option Ctl :=
  if c.recognition && e.unmarked then
    if e.value = c.seize then some .seize
    else if e.value = c.yield then some .yield
    else if e.value = c.attention then some .attention
    else none
  else none

/-- The arbiter acts on a received frame (R101 to R104), or it is stored for the owner (R85). -/
def deliverEntry (s : State) (l : LineId) (e : RxEntry) : State :=
  match (s.line l).ctl.recognise e with
  | some .seize => seize s l
  | some .yield => yieldLine s l
  | some .attention => attention s l
  | none => s.setLine l ((s.line l).storeEntry e)

/-- The shortest time from the space sample of a start bit to the sample of the first stop bit (R82, R83): 8 samples to
the middle of the start bit, and 16 for each bit sampled after it. -/
def Line.frameTime (x : Line) : Nat := (8 + 16 * x.format.sampledLength) * bitTime x.format.rate / 16

/-- The frame that a receiver completion delivers: the given samples, or those of the receiver's own complete frame. A
given frame that began before the receiver began afresh is not delivered: a start, a clear or the frame before it has
discarded it (R83, R114). -/
def Line.frameOf (x : Line) (now : Nat) (given : Option RawFrame) : Option RawFrame :=
  match given with
  | some raw => if x.rx.fresh + x.frameTime ≤ now then some raw else none
  | none => match x.rx.phase with
    | .complete raw => some raw
    | _ => none

/-- A receiver completion (R83 to R85): nothing when the line is not RUNNING or its receiver has no frame. -/
def completeReceive (s : State) (l : LineId) (given : Option RawFrame) : State :=
  let x := s.line l
  if x.state = .running then
    match x.frameOf s.now given with
    | none => s
    | some raw =>
      let e := judge x.format raw
      deliverEntry (s.setLine l { x with rx := { x.rx with phase := phaseAfter e, fresh := s.now } }) l e
  else s

/-! ### The transmitter (R90, R91) -/

/-- A transmitter start is due (R90). -/
def Line.startDue (x : Line) : Bool :=
  decide (x.state = .running) && x.tx.isNone && !(x.chan x.owner).tx.isEmpty

/-- The first step of position 7 of this instant has been taken (R152). -/
def Sched.note7 (x : Sched) : Sched := { x with passed7 := true }

/-- A transmitter start (R90): takes the head of the owner's transmit queue. Nothing unless it is due. -/
def startTransmit (s : State) (l : LineId) : State :=
  let x := s.line l
  if x.startDue then
    match (x.chan x.owner).tx with
    | [] => s
    | v :: rest =>
      let y := x.setChan x.owner { x.chan x.owner with tx := rest }
      ({ s with sched := s.sched.note7 } : State).setLine l { y with tx := some ⟨v, s.now⟩ }
  else s

/-- A transmitter completion (R91), at the end of its last stop bit. Nothing when the transmitter is idle. -/
def completeTransmit (s : State) (l : LineId) : State :=
  let x := s.line l
  match x.tx with
  | none => s
  | some c =>
    let s₁ := s.advanceTo (x.txEnd c)
    ({ s₁ with sched := s₁.sched.note7 } : State).setLine l
      { x with tx := none, state := if x.state = .draining then .stopped else x.state }

/-! ### Queue accesses (R28, R87, R88) -/

/-- LINE_RX's refusal, if any (R87). -/
def State.rxRefusal (s : State) (l : LineId) : Option Reason :=
  if (s.lane (rxLane l)).holdsJob then some .laneBusy
  else if (s.line l).prog.rx.isEmpty then some .empty
  else none

/-- LINE_TX's refusal, if any (R88). -/
def State.txRefusal (s : State) (l : LineId) : Option Reason :=
  if (s.lane (txLane l)).holdsJob then some .laneBusy
  else if Config.queueDepth ≤ (s.line l).prog.tx.length then some .full
  else none

/-- Remove the oldest entry of a channel's receive queue (R28, R87). -/
def popEntry (s : State) (l : LineId) (o : Owner) : State :=
  let x := s.line l
  s.setLine l (x.setChan o { x.chan o with rx := (x.chan o).rx.tail })

/-- Append a character to a channel's transmit queue (R28, R88). -/
def pushChar (s : State) (l : LineId) (o : Owner) (v : Byte) : State :=
  let x := s.line l
  s.setLine l (x.setChan o { x.chan o with tx := (x.chan o).tx ++ [v] })

end Sys2Proof.Machine
end

