-- ==== Sys2Proof/Machine/Sequencer.lean ====
section
/-! DEFINITION. The transfer sequencer (spec/07): submission, moves, records, RESUME and ABORT. -/

namespace Sys2Proof.Machine

open Sys2Proof

/-- The lane starts its oldest queued job with 0 bytes moved, or becomes IDLE (R124 to R126). -/
def Lane.startNext (x : Lane) : Lane :=
  match x.queue with
  | [] => { x with state := .idle }
  | j :: rest => { x with state := .running j 0, queue := rest }

/-- The placement of a record (R124): appended when the list has room, else pending. `halts`: the status is ERROR or
BREAK and the job had halt-on-error set. -/
def Lane.placeRecord (x : Lane) (r : Record) (halts : Bool) : Lane :=
  if x.records.length < Config.laneDepth then
    let y := { x with records := x.records ++ [r] }
    if halts then { y with state := .halted } else y.startNext
  else { x with state := .waitRecord r (if halts then .halt else .continue) }

/-- A job that a move ends forms its record (R124). -/
def Lane.endJob (x : Lane) (job : Job) (status : JobStatus) (moved : Nat) : Lane :=
  x.placeRecord ⟨job.tag, status, moved, job.notify⟩
    (decide (status = .error ∨ status = .brk) && job.haltOnError)

/-! ### Submission (R120) -/

/-- The value check of a submission to lane `n` (R120). -/
def submitBad (n : LaneId) (a : Assembly) : Bool :=
  decide (a.length = 0) || decide (Config.stagingSize < a.offset.toNat + a.length.toNat)
    || (isTxLane n && (a.stopPresent || a.endOnError || a.haltOnError))

/-- An accepted submission (R120). -/
def Lane.submit (x : Lane) : Lane :=
  match x.state with
  | .idle => { x with state := .running x.asm.job 0 }
  | _ => { x with queue := x.queue ++ [x.asm.job] }

/-! ### RESUME and ABORT (R126, R127, R129) -/

/-- RESUME (R126): only a HALTED lane goes on. -/
def Lane.resume (x : Lane) : Lane :=
  match x.state with
  | .halted => x.startNext
  | _ => x

/-- The discarded count after discarding some jobs (R129). -/
def addDiscarded (c : Byte) (n : Nat) : Byte := BitVec.ofNat 8 (min 255 (c.toNat + n))

/-- Every queued job is discarded and counted (R127, R129). -/
def Lane.discardQueue (x : Lane) : Lane :=
  { x with queue := [], discarded := addDiscarded x.discarded x.queue.length }

/-- ABORT (R127). -/
def Lane.abort (x : Lane) : Lane :=
  match x.state with
  | .idle => x
  | .running job moved => x.discardQueue.placeRecord ⟨job.tag, .aborted, moved, job.notify⟩ false
  | .halted => { x.discardQueue with state := .idle }
  | .waitRecord r _ => { x.discardQueue with state := .waitRecord r .continue }

/-- The command in bits 1:0 of TSQ_COMMAND; 0 and 3 are refused before it is used (R126). -/
def Lane.command (x : Lane) (c : BitVec 2) : Lane :=
  if c = 1 then x.resume else if c = 2 then x.abort else x

/-! ### Reading records (R125) -/

/-- The removal of the oldest record, the placement of a pending one, and how the lane goes on (R125). -/
def Lane.takeRecord (x : Lane) : Lane :=
  match x.records with
  | [] => x
  | _ :: rest =>
    match x.state with
    | .waitRecord r .halt => { x with records := rest ++ [r], state := .halted }
    | .waitRecord r .continue => ({ x with records := rest ++ [r] } : Lane).startNext
    | _ => { x with records := rest }

/-- The word a read of TSQ_RECORD returns (R125): the oldest record with the count that the read leaves, or the empty
record word. -/
def Lane.recordReadWord (x : Lane) : Word :=
  match x.records with
  | [] => 0
  | r :: _ => recordWord r x.takeRecord.records.length

/-! ### Moves (R121 to R123) -/

/-- The staging address of the next byte of a job: its offset plus the bytes moved (R117). -/
def Job.address (j : Job) (moved : Nat) : Nat := j.offset.toNat + moved

/-- How a receive move handles an entry (R122): the status with which the job ends, if it ends. -/
def receiveEnds (job : Job) (moved : Nat) (e : RxEntry) : Option JobStatus :=
  if e.brk then some .brk
  else if (e.parity || e.framing) && job.endOnError then some .error
  else if job.stopChar = some e.value then some .stopChar
  else if moved + 1 = job.length.toNat then some .count
  else none

/-- Bytes moved after a receive move: a break stores nothing (R122). -/
def movedAfter (moved : Nat) (e : RxEntry) : Nat := if e.brk then moved else moved + 1

/-- The lane after a receive move (R122). -/
def Lane.afterReceive (x : Lane) (job : Job) (moved : Nat) (e : RxEntry) : Lane :=
  match receiveEnds job moved e with
  | some st => x.endJob job st (movedAfter moved e)
  | none => { x with state := .running job (moved + 1) }

/-- The lane after a transmit move (R123). -/
def Lane.afterTransmit (x : Lane) (job : Job) (moved : Nat) : Lane :=
  if moved + 1 = job.length.toNat then x.endJob job .count (moved + 1)
  else { x with state := .running job (moved + 1) }

/-- The move step of lane `n` is in the round of the present instant (R121): a lane that has moved begins a new
round. -/
def Sched.noteMove (x : Sched) (n : LaneId) : Sched :=
  { x with passed8 := true, moved := if x.moved.contains n then [n] else n :: x.moved }

/-- A receive move (R122): nothing unless the lane is RUNNING and its queue holds an entry (R121). -/
def receiveMove (s : State) (l : LineId) : State :=
  let x := s.lane (rxLane l)
  let y := s.line l
  match x.state, y.prog.rx with
  | .running job moved, e :: rest =>
    let s₁ := s.setLine l { y with prog := { y.prog with rx := rest } }
    let s₂ : State :=
      { s₁ with
        staging := if e.brk then s.staging else writeByte s.staging (job.address moved) e.value
        sched := s.sched.noteMove (rxLane l) }
    s₂.setLane (rxLane l) (x.afterReceive job moved e)
  | _, _ => s

/-- A transmit move (R123): nothing unless the lane is RUNNING and its queue has a place (R121). -/
def transmitMove (s : State) (l : LineId) : State :=
  let x := s.lane (txLane l)
  let y := s.line l
  match x.state with
  | .running job moved =>
    if y.prog.tx.length < Config.queueDepth then
      let b := readByte s.staging (job.address moved)
      let s₁ := s.setLine l { y with prog := { y.prog with tx := y.prog.tx ++ [b] } }
      let s₂ : State := { s₁ with sched := s.sched.noteMove (txLane l) }
      s₂.setLane (txLane l) (x.afterTransmit job moved)
    else s
  | _ => s

/-- The receive move would store beyond staging memory: no job that R120 admits does. -/
def receiveMoveFaults (s : State) (l : LineId) : Bool :=
  match (s.lane (rxLane l)).state, (s.line l).prog.rx with
  | .running job moved, e :: _ => !e.brk && decide (Config.stagingSize ≤ job.address moved)
  | _, _ => false

/-- The transmit move would read beyond staging memory: no job that R120 admits does. -/
def transmitMoveFaults (s : State) (l : LineId) : Bool :=
  match (s.lane (txLane l)).state with
  | .running job moved =>
    decide ((s.line l).prog.tx.length < Config.queueDepth) && decide (Config.stagingSize ≤ job.address moved)
  | _ => false

end Sys2Proof.Machine
end

