-- ==== Sys2Proof/Machine/HostBus.lean ====
section
/-! DEFINITION. The host bus (spec/01): driving a completion, recording a refusal, the held request and its ending
conditions. -/

namespace Sys2Proof.Machine

open Sys2Proof

/-! ### Completions (R1, R2) -/

/-- Drive a completion (R1, R2): HDONE or HREFUSE with the word on HDATA. With HREQ already released the transaction is
over at once. -/
def State.drive (s : State) (done : Bool) (w : Word) : State :=
  { s with
    host := { s.host with
      phase := if s.pins.hreq then .completed else .idle
      hdone := s.pins.hreq && done
      hrefuse := s.pins.hreq && !done
      hdata := w } }

/-- A done transaction: a read's word, or zero for a write (R2). -/
def State.driveDone (s : State) (w : Word) : State := s.drive true w

/-- A refused transaction: the reason code in HDATA[7:0] (R2). -/
def State.driveRefused (s : State) (r : Reason) : State := s.drive false (place r.code 0)

/-! ### Recording (R13, R14, R16) -/

/-- The fault record after a programming refusal (R13, R14). -/
def FaultRecord.note (f : FaultRecord) (num : ItemNumber) (r : Reason) (write priv : Bool) : FaultRecord :=
  if f.occupied then { f with overflow := true, count := satInc f.count }
  else ⟨num, r.code, write, priv, false, 1⟩

/-- The flow-refusal counter increments, saturating (R16). -/
def State.countFlow (s : State) : State := { s with host := { s.host with flowCount := satInc s.host.flowCount } }

/-- What a refusal changes (R4): the fault record for a programming refusal, the flow count for a flow refusal. -/
def State.recordRefusal (s : State) (num : ItemNumber) (r : Reason) (write priv : Bool) : State :=
  if r.isProgramming then { s with host := { s.host with fault := s.host.fault.note num r write priv } }
  else s.countFlow

/-! ### The held request (R8 to R11) -/

/-- The refusal of the twin of a waiting item, if any (R8). -/
def State.twinRefusal (s : State) (l : LineId) (write : Bool) : Option Reason :=
  if write then s.txRefusal l else s.rxRefusal l

/-- The effect of the twin when it completes (R8): the removal of the oldest receive entry, or the appending of the
data. -/
def twinEffect (s : State) (l : LineId) (write : Bool) (data : Word) : State :=
  if write then pushChar s l .program (field data 0 8) else popEntry s l .program

/-- The word of the twin's completion: the receive data word for a read, zero for a write (R2, R86). -/
def State.twinWord (s : State) (l : LineId) (write : Bool) : Word :=
  if write then 0 else rxHeadWord (s.line l).prog.rx

/-- The reason with which a wait ends when nothing came of it (R8, R11): FULL for a write, EMPTY for a read. -/
def waitReason (write : Bool) : Reason := if write then .full else .empty

/-- The ending conditions 2 to 6 of R9, the earliest row deciding. Row 1 is carried out by the clears themselves. -/
def State.endingReason (s : State) (l : LineId) (write : Bool) : Option Reason :=
  let x := s.line l
  let lane := if write then txLane l else rxLane l
  if (s.lane lane).holdsJob then some .laneBusy
  else if write then
    if x.owner ≠ .program ∨ x.state ≠ .running then some .full else none
  else if x.prog.rx.isEmpty ∧ (x.owner ≠ .program ∨ x.state ≠ .running) then some .empty
  else none

/-- The held request, if the transaction in progress is held. -/
def State.heldRequest (s : State) : Option Held :=
  match s.host.phase with
  | .held h => some h
  | _ => none

/-- The instant at which a held request's limit expires (R11). -/
def Held.deadline (h : Held) : Nat := h.since + h.limit.toNat * Config.periodsPerMicro

/-- The held request is refused with a flow reason and counted (R12, R16). -/
def State.refuseHeld (s : State) (r : Reason) : State := s.countFlow.driveRefused r

/-- The re-examination of a held request (R10): its ending conditions, then its twin, then its wait limit. -/
def reexamine (s : State) (h : Held) (expired : Bool) : State :=
  match s.endingReason h.line h.write with
  | some r => s.refuseHeld r
  | none =>
    if (s.twinRefusal h.line h.write).isNone then
      (twinEffect s h.line h.write h.data).driveDone (s.twinWord h.line h.write)
    else if expired then s.refuseHeld (waitReason h.write)
    else s

/-- The completion or ending of a held request (R10). Nothing without one, or when nothing applies. -/
def completeHeld (s : State) : State :=
  match s.heldRequest with
  | none => s
  | some h => reexamine s h (decide (h.deadline ≤ s.now))

/-- The expiry of a held request's wait limit, at its instant (R11). -/
def expireHeld (s : State) : State :=
  match s.heldRequest with
  | none => s
  | some h => reexamine (s.advanceTo h.deadline) h true

/-- A held request on line `l` ends CLEARED (R9, R18, R96), counted by R16. -/
def clearHeldOn (s : State) (l : LineId) : State :=
  match s.heldRequest with
  | none => s
  | some h => if h.line = l then s.refuseHeld .cleared else s

/-- LINE_CLEAR of line `l` (R96, R128): the queues, flags, transmitter and receiver, a held request, then both lanes. -/
def clearLine (s : State) (l : LineId) : State :=
  let s₁ := clearHeldOn (s.setLine l ((s.line l).cleared s.now)) l
  let s₂ := s₁.setLane (rxLane l) (s₁.lane (rxLane l)).abort
  s₂.setLane (txLane l) (s₂.lane (txLane l)).abort

end Sys2Proof.Machine
end

