-- ==== Sys2Proof/Machine/Restart.lean ====
section
/-! DEFINITION. The restart controller (spec/09): requests, the beginning of a restart, pulse ends and the debouncer. -/

namespace Sys2Proof.Machine

open Sys2Proof

/-- The merged count of target `t` increments, saturating; nothing else changes (R144). -/
def mergeRequest (s : State) (t : TargetId) : State :=
  s.setRestart t { s.restart t with merged := satInc (s.restart t).merged }

/-- Target `t` leaves RUN (R145): its restart state, restart count and cause, its event context (R77), its doorbell's
unread flag (R34). -/
def enterRestart (s : State) (t : TargetId) (st : RunState) (cause : Cause) : State :=
  let r := s.restart t
  let s₁ := s.setRestart t { r with state := st, count := satInc r.count, cause := cause }
  let s₂ := clearContext s₁ t
  s₂.setBell t { s₂.bell t with unread := false }

/-- The instant at which a pulse that begins now ends (R144, R146). -/
def State.pulseEndFromNow (s : State) : Nat := s.now + s.rsc.width.toNat * Config.periodsPerMilli

/-- A PULSE request (R144). -/
def requestPulse (s : State) (t : TargetId) (cause : Cause) : State :=
  match (s.restart t).state with
  | .run => enterRestart s t (.pulse s.pulseEndFromNow) cause
  | _ => mergeRequest s t

/-- A HOLD request (R144): a pulse becomes a hold without an entry. -/
def requestHold (s : State) (t : TargetId) (cause : Cause) : State :=
  match (s.restart t).state with
  | .run => enterRestart s t .held cause
  | .pulse _ => s.setRestart t { s.restart t with state := .held }
  | .held => mergeRequest s t

/-- A RELEASE request (R144): only a hold is released, and nothing is merged. -/
def requestRelease (s : State) (t : TargetId) : State :=
  match (s.restart t).state with
  | .held => s.setRestart t { s.restart t with state := .run }
  | _ => s

/-- The pulse end of target `t` (R146), taken at its instant. Without a pulse nothing happens. -/
def endPulse (s : State) (t : TargetId) : State :=
  match (s.restart t).state with
  | .pulse ends =>
    let s₁ := s.advanceTo ends
    s₁.setRestart t { s₁.restart t with state := .run }
  | _ => s

/-! ### The button (R148) -/

/-- The debouncer after a sample (R148). -/
def RestartUnit.debounce (x : RestartUnit) (asserted : Bool) : RestartUnit :=
  match x.phase, asserted with
  | .released, true => { x with phase := .pressing, run := 1 }
  | .released, false => { x with run := 0 }
  | .pressing, true =>
    if x.run + 1 = 20 then { x with phase := .pressed, run := 0 } else { x with run := x.run + 1 }
  | .pressing, false => { x with phase := .released, run := 0 }
  | .pressed, true => { x with run := 0 }
  | .pressed, false => { x with phase := .releasing, run := 1 }
  | .releasing, true => { x with phase := .pressed, run := 0 }
  | .releasing, false =>
    if x.run + 1 = 20 then { x with phase := .released, run := 0 } else { x with run := x.run + 1 }

/-- This sample completes a press (R148): the twentieth consecutive asserted one. -/
def RestartUnit.presses (x : RestartUnit) (asserted : Bool) : Bool :=
  decide (x.phase = .pressing) && asserted && decide (x.run + 1 = 20)

/-- A PULSE request with cause BUTTON to target `t` if it is in the button map (R148). -/
def pressTarget (s : State) (t : TargetId) : State :=
  if inSet s.rsc.buttonMap t then requestPulse s t .button else s

/-- A press (R148): the mapped targets in ascending number. -/
def pressButton (s : State) : State := pressTarget (pressTarget (pressTarget (pressTarget s 0) 1) 2) 3

/-- The index of the next button sample on the millisecond base (R153). -/
def State.nextMilli (s : State) : Nat := nextIndex s.sched.lastMilli s.now Config.periodsPerMilli

/-- One button sample with its press, if it completes one (R148). -/
def sampleButton (s : State) : State :=
  let k := s.nextMilli
  let s₁ := s.advanceTo (k * Config.periodsPerMilli)
  let press := s₁.rsc.presses s₁.pins.restartIn
  let s₂ : State :=
    { s₁ with sched := { s₁.sched with lastMilli := k }, rsc := s₁.rsc.debounce s₁.pins.restartIn }
  if press then pressButton s₂ else s₂

end Sys2Proof.Machine
end

