-- ==== Sys2Proof/Machine/Timers.lean ====
section
/-! DEFINITION. The tally timers (spec/08): the tick base, the commands, counting and expiry. -/

namespace Sys2Proof.Machine

open Sys2Proof

/-- The source of timer `n`: 16 + n (R138). -/
def timerSource : TimerId → SourceId
  | 0 => 16
  | 1 => 17
  | 2 => 18
  | 3 => 19

/-- Some timer is RUNNING (R132). -/
def State.anyTimerRunning (s : State) : Bool :=
  decide ((s.timer 0).state = .running) || decide ((s.timer 1).state = .running)
    || decide ((s.timer 2).state = .running) || decide ((s.timer 3).state = .running)

/-! ### Commands (R136) -/

/-- START: the count restarts at 0 and the timer runs. -/
def Timer.start (x : Timer) : Timer := { x with count := 0, state := .running }

/-- STOP: a RUNNING or EXPIRED timer stops and keeps its count. -/
def Timer.stop (x : Timer) : Timer := { x with state := .stopped }

/-- ACK: the mark is cleared. -/
def Timer.ack (x : Timer) : Timer := { x with mark := false }

/-- The command in bits 1:0 of TTM_COMMAND; 0 is refused before it is used. -/
def Timer.command (x : Timer) (c : BitVec 2) : Timer :=
  if c = 1 then x.start else if c = 2 then x.stop else if c = 3 then x.ack else x

/-- An accepted write of TTM_CONFIG (R134). -/
def Timer.configure (x : Timer) (w : Word) : Timer :=
  { x with periodic := w.getLsbD 0, guard := w.getLsbD 1, escalation := escalationOfWord w }

/-! ### Expiry (R138, R139) -/

/-- Point 1 of an expiry: a lost expiry is counted and escalates (R138, R139). -/
def loseExpiry (s : State) (n : TimerId) : State :=
  if (s.timer n).mark then
    let s₁ := s.setTimer n { s.timer n with lost := satInc (s.timer n).lost }
    match (s.timer n).escalation with
    | none => s₁
    | some t => (requestPulse s₁ t .watchdog).setSticky watchdogBit
  else s

/-- Points 2 to 4 of an expiry: the mark, the edge, and the continuation by mode (R138). -/
def finishExpiry (s : State) (n : TimerId) : State :=
  let x := s.timer n
  (s.setTimer n
    (if x.periodic then { x with mark := true, count := 0 }
     else { x with mark := true, count := x.limit, state := .expired })).raise (timerSource n)

/-- The expiry of timer `n` (R138). -/
def expireTimer (s : State) (n : TimerId) : State := finishExpiry (loseExpiry s n) n

/-- Timer `n` reaches its limit at its next count (R137). -/
def Timer.expiresNext (x : Timer) : Bool :=
  decide (x.state = .running) && decide (x.count + 1 = x.limit)

/-- The visit of timer `n` in a tick step (R137). -/
def visitTimer (s : State) (n : TimerId) : State :=
  let x := s.timer n
  if x.state = .running then
    if x.expiresNext then expireTimer s n else s.setTimer n { x with count := x.count + 1 }
  else s

/-- The four visits of a tick step, in ascending number (R137). -/
def visitTimers (s : State) : State := visitTimer (visitTimer (visitTimer (visitTimer s 0) 1) 2) 3

/-! ### The tick base (R132, R153) -/

/-- A tick's length in REFCLK periods. -/
def TickBase.period (x : TickBase) : Nat := x.length.toNat * Config.periodsPerMicro

/-- The index of the next tick after the tick origin. -/
def State.nextTick (s : State) : Nat := nextIndex s.sched.lastTick (s.now - s.tick.origin) s.tick.period

/-- The clock at the instant of the next tick. -/
def State.atNextTick (s : State) : State := s.advanceTo (s.tick.origin + s.nextTick * s.tick.period)

/-- A tick step (R137). -/
def takeTick (s : State) : State :=
  visitTimers { s.atNextTick with sched := { s.atNextTick.sched with lastTick := s.nextTick } }

/-- The expiry of timer `n` in its tick (R138): nothing when the next tick does not bring its count to its limit. -/
def takeExpiry (s : State) (n : TimerId) : State :=
  if (s.timer n).expiresNext then expireTimer s.atNextTick n else s

/-- An accepted write of TTM_TICK (R132): the length, and the origin at this instant. -/
def writeTick (s : State) (w : Word) : State :=
  { s with tick := ⟨field w 0 16, s.now⟩, sched := { s.sched with lastTick := 0 } }

end Sys2Proof.Machine
end

