-- ==== Sys2Proof/Machine/Resets.lean ====
section
/-! DEFINITION. The resets of the whole hub (spec/10): RESET_N and CLEAR_ALL. -/

namespace Sys2Proof.Machine

open Sys2Proof

/-- Every block at its RESET_N values (R155 and the matrix of spec/10); the pins and the queues are not the
hub's. -/
def State.powerOn (s : State) (m : Moment) (low : Bool) : State :=
  { State.reset with inReset := low, pins := m.pins, pending := s.pending, coming := s.coming }

/-- RESET_N goes low (R155). -/
def assertReset (m : Moment) (s : State) : State := s.powerOn m true

/-- RESET_N is released (R155): the time bases take their origin. A frame already selected must first be released
(R19). A RESET_N that is not low cannot be released. -/
def releaseReset (m : Moment) (s : State) : State :=
  if s.inReset then
    let x := s.powerOn m false
    { x with svc := { x.svc with waitRelease := m.pins.svcSel, sel := m.pins.svcSel, clk := m.pins.svcClk } }
  else s

/-- A source after CLEAR_ALL (R56): its power-on entry, IDLE, merge count 0; the input is kept, and the end of the step
evaluates the internal ones. -/
def clearSource (s : State) (i : SourceId) : State :=
  s.setSrc i ⟨powerOnEntry i, .idle, (s.src i).input, 0⟩

/-- The source table after CLEAR_ALL (R56). -/
def clearSources (s : State) : State := allSources.foldl clearSource s

/-- The host port in CLEAR_ALL (R18, R156): a held request is refused CLEARED, uncounted; wait limit, fault record and
flow count are cleared. -/
def clearHost (s : State) : State :=
  let s₁ := match s.heldRequest with
    | none => s
    | some _ => s.driveRefused .cleared
  { s₁ with host := { s₁.host with waitLimit := 0, fault := .empty, flowCount := 0 } }

/-- The service port in CLEAR_ALL (R36): sticky flags, doorbells and the posted record; the command that carries the
clear posts its own record afterwards. -/
def clearService (s : State) : State :=
  { s with
    svc := { s.svc with
      posted := ServicePort.powerOn.posted
      sticky := 0
      doorbells := ServicePort.powerOn.doorbells } }

/-- CLEAR_ALL (R156): every block at the CLEAR_ALL column of the matrix. Kept: restart states, the restart unit,
staging memory, the snapshot record, the abort count, the alert mask, the XR samples, the time bases but the tick
origin. -/
def clearAll (s : State) : State :=
  let s₁ := clearSources (clearService (clearHost s))
  { s₁ with
    targets := State.reset.targets
    lineA := .powerOn
    lineB := .powerOn
    lanes := State.reset.lanes
    tick := ⟨State.reset.tick.length, s₁.now⟩
    timers := State.reset.timers
    sched := { s₁.sched with lastTick := 0 } }

end Sys2Proof.Machine
end

