-- ==== Sys2Proof/Machine/Items.lean ====
section
/-! DEFINITION. The item directory at work (spec/11): which port reaches which item, what each item reads as, the checks
of a write in their order, and what an accepted write does. -/

namespace Sys2Proof.Machine

open Sys2Proof

/-! ### Access (spec/11, section 11.5) -/

/-- Host access of an item. -/
inductive HostAccess where
  | none | read | readWrite | write
  deriving DecidableEq, Repr

/-- Service access of an item. -/
inductive SvcAccess where
  | none | read | readWrite
  deriving DecidableEq, Repr

/-- The host access column of the directory. -/
def hostAccess : Item → HostAccess
  | .hub .ident | .hub .fault => .read
  | .hub .waitLimit | .hub .flowCount => .readWrite
  | .hub .faultAck | .hub .clearAll => .write
  | .srcEntry _ | .srcStatus _ => .readWrite
  | .tgt _ .done => .write
  | .tgt _ .floor | .tgt _ .vbase | .tgt _ .vstride | .tgt _ .urgentStatus => .readWrite
  | .tgt _ _ => .read
  | .line _ .start | .line _ .stop | .line _ .clear | .line _ .tx | .line _ .txWait => .write
  | .line _ .release | .line _ .reclaim | .line _ .unlock => .write
  | .line _ .format | .line _ .thresh | .line _ .perr | .line _ .alarmMask => .readWrite
  | .line _ .ctlchars | .line _ .pecho => .readWrite
  | .line _ .status | .line _ .control | .line _ .rx | .line _ .rxWait => .read
  | .line _ .serr | .line _ .owner | .line _ .secho => .read
  | .lane _ .jobPlace | .lane _ .jobMode | .lane _ .discarded => .readWrite
  | .lane _ .submit | .lane _ .command => .write
  | .lane _ .laneStatus | .lane _ .current | .lane _ .record => .read
  | .tickLength => .readWrite
  | .timer _ .config | .timer _ .limit | .timer _ .status => .readWrite
  | .timer _ .count => .read
  | .timer _ .command => .write
  | .rsc .restart => .write
  | .rsc .width | .rsc .buttonMap => .readWrite
  | .rsc .button | .rsc (.target _) => .read
  | .snap _ => .none
  | .alert _ => .read
  | .staging _ => .readWrite

/-- The service access column of the directory (R27). -/
def svcAccess : Item → SvcAccess
  | .hub .faultAck | .hub .clearAll => .none
  | .hub _ => .read
  | .srcEntry _ | .srcStatus _ => .read
  | .tgt _ _ => .read
  | .line _ .start | .line _ .stop | .line _ .clear => .none
  | .line _ .rx | .line _ .rxWait | .line _ .tx | .line _ .txWait => .none
  | .line _ .release | .line _ .reclaim | .line _ .unlock => .none
  | .line _ .control | .line _ .serr | .line _ .secho => .readWrite
  | .line _ _ => .read
  | .lane _ _ => .read
  | .tickLength => .read
  | .timer _ _ => .read
  | .rsc .width | .rsc .buttonMap => .readWrite
  | .rsc _ => .read
  | .snap _ => .read
  | .alert .mask => .readWrite
  | .alert _ => .read
  | .staging _ => .none

/-! ### Reading -/

/-- The value of a hub-control item. -/
def State.hubWord (s : State) : HubItem → Word
  | .ident => hubIdWord
  | .waitLimit => place s.host.waitLimit 0
  | .fault => faultWord s.host.fault
  | .faultAck => 0
  | .flowCount => place s.host.flowCount 0
  | .clearAll => 0

/-- The value of a target item (R63, R67, R70 to R74, R34). -/
def State.targetWord (s : State) (t : TargetId) : TargetItem → Word
  | .take => s.takeWord t
  | .takeUrgent => s.takeUrgentWord t
  | .done => 0
  | .offer => s.offerWord t
  | .state => s.stateWord t
  | .floor => place (s.tgt t).floor 0
  | .vbase => vbaseWord (s.tgt t).vbase
  | .vstride => place (s.tgt t).vstride 0
  | .dispatch => (s.tgt t).dispatch
  | .stack k => stackWord (s.tgt t).stack k
  | .urgentStatus => urgentWord (s.tgt t).urgent (s.tgt t).lost
  | .doorbell => (s.bell t).word
  | .takeCount => (s.tgt t).takes

/-- The value of a line item; a queue item gives the word a removal would return (R86). -/
def State.lineWord (s : State) (l : LineId) : LineItem → Word
  | .format => formatWord (s.line l).format
  | .status => lineStatusWord (s.line l)
  | .start | .stop | .clear => 0
  | .control => lineControlWord (s.line l)
  | .rx | .rxWait => rxHeadWord (s.line l).prog.rx
  | .tx | .txWait => 0
  | .thresh => threshWord (s.line l)
  | .perr => place (s.line l).prog.flags 0
  | .serr => place (s.line l).serv.flags 0
  | .alarmMask => place (s.line l).alarmMask 0
  | .owner => ownerWord (s.line l) s.pins.seizePermit
  | .release | .reclaim | .unlock => 0
  | .ctlchars => ctlWord (s.line l).ctl
  | .pecho => bitAt (s.line l).prog.echo 0
  | .secho => bitAt (s.line l).serv.echo 0

/-- The value of a lane item (R119, R125, R129). -/
def State.laneWord (s : State) (n : LaneId) : LaneItem → Word
  | .jobPlace => placeWord (s.lane n).asm
  | .jobMode => modeWord (s.lane n).asm
  | .submit | .command => 0
  | .laneStatus => laneStatusWord (s.lane n)
  | .current => currentWord (s.lane n)
  | .record => (s.lane n).recordReadWord
  | .discarded => place (s.lane n).discarded 0

/-- The value of a timer item (R134, R135, R140). -/
def State.timerWord (s : State) (n : TimerId) : TimerItem → Word
  | .config => configWord (s.timer n)
  | .limit => place (s.timer n).limit 0
  | .count => place (s.timer n).count 0
  | .command => 0
  | .status => timerStatusWord (s.timer n)

/-- The value of a restart item (R146, R148, R149). -/
def State.rscWord (s : State) : RestartItem → Word
  | .restart => 0
  | .width => place s.rsc.width 0
  | .buttonMap => place s.rsc.buttonMap 0
  | .button => buttonWord s.rsc s.pins.restartIn
  | .target t => restartWord (s.restart t) s.now

/-- The value of a snapshot item (R35). -/
def State.snapWord (s : State) (k : Fin 9) : Word :=
  if k.val = 0 then place s.svc.snap.seq 0
  else if k.val < 5 then s.svc.snap.src.getD (k.val - 1) 0
  else s.svc.snap.tgt.getD (k.val - 5) 0

/-- The value of a service alert item. -/
def State.alertWord (s : State) : AlertItem → Word
  | .flags => place s.alertFlags 0
  | .mask => place s.svc.mask 0
  | .doorbellStatus => s.doorbellStatus
  | .abortCount => place s.svc.abortCount 0

/-- The word a read of an item returns on this state: the item's value, zero for a command item (R5), and for a
consuming item the word that the consuming read returns (R26). -/
def State.itemWord (s : State) : Item → Word
  | .hub i => s.hubWord i
  | .srcEntry i => entryWord (s.src i).entry
  | .srcStatus i => sourceStatusWord (s.src i)
  | .tgt t i => s.targetWord t i
  | .line l i => s.lineWord l i
  | .lane n i => s.laneWord n i
  | .tickLength => place s.tick.length 0
  | .timer n i => s.timerWord n i
  | .rsc i => s.rscWord i
  | .snap k => s.snapWord k
  | .alert i => s.alertWord i
  | .staging k => readStaging s.staging k.val

/-- The refusal of a host read that exists for the host (R161), the waiting item apart. -/
def State.readRefusal (s : State) : Item → Option Reason
  | .tgt t .take | .tgt t .takeUrgent => if s.running t then none else some .restarting
  | .line l .rx => s.rxRefusal l
  | _ => none

/-- What a host read that completes done consumes (R163): nothing for every other item. -/
def consume (s : State) : Item → State
  | .tgt t .take => takeOffer s t
  | .tgt t .takeUrgent => takeUrgent s t
  | .tgt t .doorbell => s.setBell t { s.bell t with unread := false }
  | .line l .rx => popEntry s l .program
  | .lane n .record => s.setLane n (s.lane n).takeRecord
  | _ => s

/-! ### The checks of a write (R160) -/

/-- A host write to this item needs a privileged access (R6, R7, R134). -/
def State.needsPriv (s : State) (it : Item) (w : Word) : Bool :=
  match it with
  | .hub _ | .rsc _ => true
  | .line _ .start | .line _ .stop | .line _ .clear | .line _ .reclaim | .line _ .unlock => true
  | .timer n .config => (s.timer n).guard || decide (w.getLsbD 1 ≠ (s.timer n).guard)
  | .timer n _ => (s.timer n).guard
  | _ => false

/-- A threshold outside 1 to 32 (R93). -/
def badThreshold (v : BitVec 6) : Bool := decide (v = 0) || decide (32 < v.toNat)

/-- Two of the three control character values are equal (R101). -/
def CtlChars.clash (c : CtlChars) : Bool :=
  decide (c.seize = c.yield) || decide (c.seize = c.attention) || decide (c.yield = c.attention)

/-- The value check of a write (R160, check 4), from either port. -/
def State.badValue (s : State) (it : Item) (w : Word) : Bool :=
  match it with
  | .hub .waitLimit => decide (255 < w.toNat)
  | .srcEntry i => entryBadValue i (entryOfWord w)
  | .tgt _ .done => (doneSource w).isNone
  | .tgt _ .vstride => decide (4 < (field w 0 3).toNat)
  | .line _ .format => decide (field w 8 2 = 3)
  | .line _ .control => decide (field w 0 2 = 0)
  | .line _ .thresh => badThreshold (field w 0 6) || badThreshold (field w 8 6)
  | .line _ .ctlchars => (ctlOfWord w).clash
  | .lane n .submit => submitBad n (s.lane n).asm
  | .lane _ .command => decide (field w 0 2 = 0 ∨ field w 0 2 = 3)
  | .tickLength => decide (field w 0 16 = 0)
  | .timer _ .limit => decide (field w 0 24 = 0)
  | .timer _ .command => decide (field w 0 2 = 0)
  | .rsc .width => decide (field w 0 8 = 0)
  | _ => false

/-- The state check of TGT_DONE (R68): RESTARTING before NOT_IN_SERVICE. -/
def State.doneRefusal (s : State) (t : TargetId) (w : Word) : Option Reason :=
  if s.running t then
    match doneSource w with
    | some i => if inStack (s.tgt t).stack i then none else some .notInService
    | none => some .notInService
  else some .restarting

/-- The state check of a host write (R160, check 5), the waiting item apart. -/
def State.writeRefusal (s : State) (it : Item) (w : Word) : Option Reason :=
  match it with
  | .srcEntry i => if (s.src i).acceptsEntry (entryOfWord w) then none else some .notIdle
  | .tgt t .done => s.doneRefusal t w
  | .tgt t .floor | .tgt t .vbase | .tgt t .vstride => if s.running t then none else some .restarting
  | .line l .format => if (s.line l).state = .stopped then none else some .notIdle
  | .line l .tx => s.txRefusal l
  | .lane n .submit => if Config.laneDepth ≤ (s.lane n).queue.length then some .queueFull else none
  | .tickLength => if s.anyTimerRunning then some .notIdle else none
  | .timer n .config =>
    if (s.timer n).state = .running ∧ w.getLsbD 0 ≠ (s.timer n).periodic then some .notIdle else none
  | .timer n .limit => if (s.timer n).state = .running then some .notIdle else none
  | _ => none

/-! ### Accepted writes -/

/-- An accepted write of a target item (R69, R72 to R74). -/
def writeTarget (s : State) (t : TargetId) (i : TargetItem) (w : Word) : State :=
  let x := s.tgt t
  match i with
  | .done => match doneSource w with
    | some src => completeSource s t src
    | none => s
  | .floor => s.setTgt t { x with floor := field w 0 5 }
  | .vbase => s.setTgt t { x with vbase := field w 12 20 }
  | .vstride => s.setTgt t { x with vstride := field w 0 3 }
  | .urgentStatus => s.setTgt t { x with lost := 0 }
  | _ => s

/-- LINE_CONTROL's command in bits 1:0 (R81): 1 START, 2 STOP, 3 CLEAR; 0 is refused before it is used. -/
def lineCommand (s : State) (l : LineId) (c : BitVec 2) : State :=
  if c = 1 then s.setLine l ((s.line l).started s.now)
  else if c = 2 then s.setLine l (s.line l).stopped
  else if c = 3 then clearLine s l
  else s

/-- An accepted write of a line item (spec/05, spec/06), from the port that may write it. -/
def writeLine (s : State) (l : LineId) (i : LineItem) (w : Word) : State :=
  let x := s.line l
  match i with
  | .format => s.setLine l { x with format := formatOfWord w }
  | .start => s.setLine l (x.started s.now)
  | .stop => s.setLine l x.stopped
  | .clear => clearLine s l
  | .control => lineCommand s l (field w 0 2)
  | .tx => pushChar s l .program (field w 0 8)
  | .thresh =>
    s.setLine l { x with rxThresh := field w 0 6, txThresh := field w 8 6, interest := w.getLsbD 16 }
  | .perr => s.setLine l { x with prog := x.prog.clearFlags w }
  | .serr => s.setLine l { x with serv := x.serv.clearFlags w }
  | .alarmMask => s.setLine l { x with alarmMask := field w 0 5 }
  | .release => releaseLine s l
  | .reclaim => reclaimLine s l
  | .unlock => unlockSeize s l
  | .ctlchars => s.setLine l { x with ctl := ctlOfWord w }
  | .pecho => s.setLine l { x with prog := { x.prog with echo := w.getLsbD 0 } }
  | .secho => s.setLine l { x with serv := { x.serv with echo := w.getLsbD 0 } }
  | _ => s

/-- An accepted write of a lane item (R119, R120, R126, R127, R129). -/
def writeLane (s : State) (n : LaneId) (i : LaneItem) (w : Word) : State :=
  let x := s.lane n
  match i with
  | .jobPlace => s.setLane n { x with asm := x.asm.withPlace w }
  | .jobMode => s.setLane n { x with asm := x.asm.withMode w }
  | .submit => s.setLane n x.submit
  | .command => s.setLane n (x.command (field w 0 2))
  | .discarded => s.setLane n { x with discarded := 0 }
  | _ => s

/-- An accepted write of a timer item (R134 to R136, R140). -/
def writeTimer (s : State) (n : TimerId) (i : TimerItem) (w : Word) : State :=
  let x := s.timer n
  match i with
  | .config => s.setTimer n (x.configure w)
  | .limit => s.setTimer n { x with limit := field w 0 24 }
  | .command => s.setTimer n (x.command (field w 0 2))
  | .status => s.setTimer n { x with lost := 0 }
  | .count => s

/-- An accepted write of a hub-control item (R11, R15, R16, R156). -/
def writeHub (s : State) (i : HubItem) (w : Word) : State :=
  match i with
  | .waitLimit => { s with host := { s.host with waitLimit := field w 0 8 } }
  | .faultAck => { s with host := { s.host with fault := .empty } }
  | .flowCount => { s with host := { s.host with flowCount := 0 } }
  | .clearAll => clearAll s
  | _ => s

/-- An accepted write of a restart item (R146 to R148). -/
def writeRsc (s : State) (i : RestartItem) (w : Word) : State :=
  match i with
  | .restart => requestPulse s (toFour (field w 0 2)) .host
  | .width => { s with rsc := { s.rsc with width := field w 0 8 } }
  | .buttonMap => { s with rsc := { s.rsc with buttonMap := field w 0 4 } }
  | _ => s

/-- What an accepted write of an item does (R162), from either port. -/
def writeItem (s : State) (it : Item) (w : Word) : State :=
  match it with
  | .hub i => writeHub s i w
  | .srcEntry i => s.setSrc i ((s.src i).writeEntry (entryOfWord w))
  | .srcStatus i => s.setSrc i { s.src i with merge := 0 }
  | .tgt t i => writeTarget s t i w
  | .line l i => writeLine s l i w
  | .lane n i => writeLane s n i w
  | .tickLength => writeTick s w
  | .timer n i => writeTimer s n i w
  | .rsc i => writeRsc s i w
  | .snap _ => s
  | .alert .mask => { s with svc := { s.svc with mask := field w 0 12 } }
  | .alert _ => s
  | .staging k => { s with staging := writeStaging s.staging k.val w }

end Sys2Proof.Machine
end

