-- ==== Sys2Proof/Machine/HostPort.lean ====
section
/-! DEFINITION. Host transactions (spec/01): the checks in their order (R160), the access, and the completion. -/

namespace Sys2Proof.Machine

open Sys2Proof

/-- A refused transaction (R4): recorded or counted, and completed with its reason. Nothing else changes. -/
def refuseHost (s : State) (num : ItemNumber) (write priv : Bool) (r : Reason) : State :=
  (s.recordRefusal num r write priv).driveRefused r

/-- The transaction becomes the held request (R8, step 5); no completion is driven. -/
def holdRequest (s : State) (l : LineId) (write : Bool) (data : Word) : State :=
  { s with
    host := { s.host with
      phase := .held ⟨l, write, data, s.now, s.host.waitLimit⟩
      hdone := false
      hrefuse := false } }

/-- A transaction to LINE_RX_WAIT or LINE_TX_WAIT (R8). -/
def waitAccess (s : State) (num : ItemNumber) (l : LineId) (write priv : Bool) (data : Word) : State :=
  match s.twinRefusal l write with
  | none => (twinEffect s l write data).driveDone (s.twinWord l write)
  | some r =>
    if r ≠ .empty ∧ r ≠ .full then refuseHost s num write priv r
    else
      match s.endingReason l write with
      | some e => refuseHost s num write priv e
      | none =>
        if s.host.waitLimit = 0 then refuseHost s num write priv r else holdRequest s l write data

/-- A host read of an item (R5, R161, R163). -/
def hostRead (s : State) (num : ItemNumber) (priv : Bool) (it : Item) : State :=
  if hostAccess it = .none then refuseHost s num false priv .noItem
  else
    match it with
    | .line l .rxWait => waitAccess s num l false priv 0
    | _ =>
      match s.readRefusal it with
      | some r => refuseHost s num false priv r
      | none => (consume s it).driveDone (s.itemWord it)

/-- The refusal of a host write by checks 1 to 4 of R160: existence, direction, privilege, value. -/
def State.hostWriteCheck (s : State) (priv : Bool) (it : Item) (data : Word) : Option Reason :=
  if hostAccess it = .none then some .noItem
  else if hostAccess it = .read then some .readOnly
  else if s.needsPriv it data && !priv then some .protection
  else if s.badValue it data then some .badValue
  else none

/-- A host write of an item (R160, R162). -/
def hostWrite (s : State) (num : ItemNumber) (priv : Bool) (it : Item) (data : Word) : State :=
  match s.hostWriteCheck priv it data with
  | some r => refuseHost s num true priv r
  | none =>
    match it with
    | .line l .txWait => waitAccess s num l true priv data
    | _ =>
      match s.writeRefusal it data with
      | some r => refuseHost s num true priv r
      | none => (writeItem s it data).driveDone 0

/-- A host transaction to an item number that names `it`, or no item (R2, R5, R159). While a request is held no other
transaction begins (R1, R12). -/
def hostAct (write priv : Bool) (num : ItemNumber) (it : Option Item) (data : Word) (s : State) : State :=
  match s.heldRequest with
  | some _ => s
  | none =>
    match it with
    | none => refuseHost s num write priv .noItem
    | some i => if write then hostWrite s num priv i data else hostRead s num priv i

/-- A host port step that reads an item of its own row. -/
def hostReadStep (m : Moment) (priv : Bool) (it : Item) (s : State) : State :=
  takeStep m (hostAct false priv it.number (some it) 0) s

/-- A host port step that writes an item of its own row. -/
def hostWriteStep (m : Moment) (priv : Bool) (it : Item) (data : Word) (s : State) : State :=
  takeStep m (hostAct true priv it.number (some it) data) s

end Sys2Proof.Machine
end

