-- ==== Sys2Proof/Machine/HostCommands.lean ====
section
/-! DEFINITION. The meanings of the host port's commands, one definition for each row. -/

namespace Sys2Proof.Machine

open Sys2Proof

/-- The outcome type of a command. -/
abbrev Result := Host.Outcome State Fault Refusal

/-- HOST_TRANSACTION_BEGIN (R1, R2): any host transaction, routed by its item number. -/
def execHostTransactionBegin (m : Moment) (write priv : Bool) (num : ItemNumber) (data : Word) (s : State) : Result :=
  .next (takeStep m (hostAct write priv num (decodeItem num) data) s)

/-- REGISTER_WRITE (R162): a host write to an item without a row of its own. -/
def execRegisterWrite (m : Moment) (priv : Bool) (num : ItemNumber) (data : Word) (s : State) : Result :=
  .next (takeStep m (hostAct true priv num (decodeItem num) data) s)

/-- HUB_FAULT_ACK (R15). -/
def execHubFaultAck (m : Moment) (priv : Bool) (data : Word) (s : State) : Result :=
  .next (hostWriteStep m priv (.hub .faultAck) data s)

/-- HUB_FLOW_COUNT (R16). -/
def execHubFlowCount (m : Moment) (priv : Bool) (data : Word) (s : State) : Result :=
  .next (hostWriteStep m priv (.hub .flowCount) data s)

/-- HUB_CLEAR_ALL (R156). -/
def execHubClearAll (m : Moment) (priv : Bool) (data : Word) (s : State) : Result :=
  .next (hostWriteStep m priv (.hub .clearAll) data s)

/-- LINE_RX_WAIT (R8). -/
def execLineRxWait (m : Moment) (priv : Bool) (l : LineId) (s : State) : Result :=
  .next (hostReadStep m priv (.line l .rxWait) s)

/-- LINE_TX_WAIT (R8). -/
def execLineTxWait (m : Moment) (priv : Bool) (l : LineId) (data : Word) (s : State) : Result :=
  .next (hostWriteStep m priv (.line l .txWait) data s)

/-- HELD_REQUEST_COMPLETION (R10). -/
def execHeldRequestCompletion (m : Moment) (s : State) : Result := .next (takeEarlyStep m completeHeld s)

/-- WAIT_LIMIT_EXPIRY (R11). -/
def execWaitLimitExpiry (m : Moment) (s : State) : Result := .next (takeStep m expireHeld s)

/-- SRC_ENTRY (R41 to R43). -/
def execSrcEntry (m : Moment) (priv : Bool) (src : SourceId) (data : Word) (s : State) : Result :=
  .next (hostWriteStep m priv (.srcEntry src) data s)

/-- SRC_STATUS (R45). -/
def execSrcStatus (m : Moment) (priv : Bool) (src : SourceId) (data : Word) (s : State) : Result :=
  .next (hostWriteStep m priv (.srcStatus src) data s)

/-- TGT_TAKE (R63, R64). -/
def execTgtTake (m : Moment) (priv : Bool) (t : TargetId) (s : State) : Result :=
  .next (hostReadStep m priv (.tgt t .take) s)

/-- TGT_TAKE_URGENT (R67). -/
def execTgtTakeUrgent (m : Moment) (priv : Bool) (t : TargetId) (s : State) : Result :=
  .next (hostReadStep m priv (.tgt t .takeUrgent) s)

/-- TGT_DONE (R68, R69). -/
def execTgtDone (m : Moment) (priv : Bool) (t : TargetId) (data : Word) (s : State) : Result :=
  .next (hostWriteStep m priv (.tgt t .done) data s)

/-- TGT_FLOOR (R73). -/
def execTgtFloor (m : Moment) (priv : Bool) (t : TargetId) (data : Word) (s : State) : Result :=
  .next (hostWriteStep m priv (.tgt t .floor) data s)

/-- TGT_URGENT_STATUS (R72). -/
def execTgtUrgentStatus (m : Moment) (priv : Bool) (t : TargetId) (data : Word) (s : State) : Result :=
  .next (hostWriteStep m priv (.tgt t .urgentStatus) data s)

/-- DOORBELL_WORD (R34). -/
def execDoorbellWord (m : Moment) (priv : Bool) (t : TargetId) (s : State) : Result :=
  .next (hostReadStep m priv (.tgt t .doorbell) s)

/-- LINE_START (R80). -/
def execLineStart (m : Moment) (priv : Bool) (l : LineId) (data : Word) (s : State) : Result :=
  .next (hostWriteStep m priv (.line l .start) data s)

/-- LINE_STOP (R80). -/
def execLineStop (m : Moment) (priv : Bool) (l : LineId) (data : Word) (s : State) : Result :=
  .next (hostWriteStep m priv (.line l .stop) data s)

/-- LINE_CLEAR (R96). -/
def execLineClear (m : Moment) (priv : Bool) (l : LineId) (data : Word) (s : State) : Result :=
  .next (hostWriteStep m priv (.line l .clear) data s)

/-- LINE_RX (R87). -/
def execLineRx (m : Moment) (priv : Bool) (l : LineId) (s : State) : Result :=
  .next (hostReadStep m priv (.line l .rx) s)

/-- LINE_TX (R88). -/
def execLineTx (m : Moment) (priv : Bool) (l : LineId) (data : Word) (s : State) : Result :=
  .next (hostWriteStep m priv (.line l .tx) data s)

/-- LINE_PERR (R92). -/
def execLinePerr (m : Moment) (priv : Bool) (l : LineId) (data : Word) (s : State) : Result :=
  .next (hostWriteStep m priv (.line l .perr) data s)

/-- RELEASE_LINE (R105). -/
def execReleaseLine (m : Moment) (priv : Bool) (l : LineId) (data : Word) (s : State) : Result :=
  .next (hostWriteStep m priv (.line l .release) data s)

/-- RECLAIM_LINE (R106). -/
def execReclaimLine (m : Moment) (priv : Bool) (l : LineId) (data : Word) (s : State) : Result :=
  .next (hostWriteStep m priv (.line l .reclaim) data s)

/-- UNLOCK_SEIZE (R107). -/
def execUnlockSeize (m : Moment) (priv : Bool) (l : LineId) (data : Word) (s : State) : Result :=
  .next (hostWriteStep m priv (.line l .unlock) data s)

/-- TSQ_SUBMIT (R120). -/
def execTsqSubmit (m : Moment) (priv : Bool) (n : LaneId) (data : Word) (s : State) : Result :=
  .next (hostWriteStep m priv (.lane n .submit) data s)

/-- RESUME (R126): TSQ_COMMAND with 1 in bits 1:0. -/
def execResume (m : Moment) (priv : Bool) (n : LaneId) (high : BitVec 30) (s : State) : Result :=
  .next (hostWriteStep m priv (.lane n .command) (high ++ 1#2) s)

/-- ABORT (R127): TSQ_COMMAND with 2 in bits 1:0. -/
def execAbort (m : Moment) (priv : Bool) (n : LaneId) (high : BitVec 30) (s : State) : Result :=
  .next (hostWriteStep m priv (.lane n .command) (high ++ 2#2) s)

/-- TSQ_RECORD (R125). -/
def execTsqRecord (m : Moment) (priv : Bool) (n : LaneId) (s : State) : Result :=
  .next (hostReadStep m priv (.lane n .record) s)

/-- TSQ_DISCARDED (R129). -/
def execTsqDiscarded (m : Moment) (priv : Bool) (n : LaneId) (data : Word) (s : State) : Result :=
  .next (hostWriteStep m priv (.lane n .discarded) data s)

/-- TTM_TICK (R132). -/
def execTtmTick (m : Moment) (priv : Bool) (data : Word) (s : State) : Result :=
  .next (hostWriteStep m priv .tickLength data s)

/-- START (R136): TTM_COMMAND with 1 in bits 1:0. -/
def execStart (m : Moment) (priv : Bool) (n : TimerId) (high : BitVec 30) (s : State) : Result :=
  .next (hostWriteStep m priv (.timer n .command) (high ++ 1#2) s)

/-- STOP (R136): TTM_COMMAND with 2 in bits 1:0. -/
def execStop (m : Moment) (priv : Bool) (n : TimerId) (high : BitVec 30) (s : State) : Result :=
  .next (hostWriteStep m priv (.timer n .command) (high ++ 2#2) s)

/-- ACK (R136): TTM_COMMAND with 3 in bits 1:0. -/
def execAck (m : Moment) (priv : Bool) (n : TimerId) (high : BitVec 30) (s : State) : Result :=
  .next (hostWriteStep m priv (.timer n .command) (high ++ 3#2) s)

/-- TTM_STATUS (R140). -/
def execTtmStatus (m : Moment) (priv : Bool) (n : TimerId) (data : Word) (s : State) : Result :=
  .next (hostWriteStep m priv (.timer n .status) data s)

/-- RSC_RESTART (R147). -/
def execRscRestart (m : Moment) (priv : Bool) (data : Word) (s : State) : Result :=
  .next (hostWriteStep m priv (.rsc .restart) data s)

end Sys2Proof.Machine
end

