-- ==== Sys2Proof/Machine/EventCommands.lean ====
section
/-! DEFINITION. The meanings of the hub's own events: resets, lines, moves and time bases, one definition for each
row. -/

namespace Sys2Proof.Machine

open Sys2Proof

/-- RESET_N_ASSERT (R155). -/
def execResetNAssert (m : Moment) (s : State) : Result := .next (assertReset m s)

/-- RESET_N_RELEASE (R155). -/
def execResetNRelease (m : Moment) (s : State) : Result := .next (releaseReset m s)

/-- RECEIVER_COMPLETION (R83 to R85, R101 to R104, R112). -/
def execReceiverCompletion (m : Moment) (l : LineId) (given : Option RawFrame) (s : State) : Result :=
  .next (takeStep m (fun x => completeReceive x l given) s)

/-- TRANSMITTER_START (R90). -/
def execTransmitterStart (m : Moment) (l : LineId) (s : State) : Result :=
  .next (takeStep m (fun x => startTransmit x l) s)

/-- TRANSMITTER_COMPLETION (R91). -/
def execTransmitterCompletion (m : Moment) (l : LineId) (s : State) : Result :=
  .next (takeStep m (fun x => completeTransmit x l) s)

/-- RECEIVE_MOVE (R121, R122). -/
def execReceiveMove (m : Moment) (l : LineId) (s : State) : Result :=
  if !s.inReset && receiveMoveFaults s l then .fault .stagingOutOfRange
  else .next (takeStep m (fun x => receiveMove x l) s)

/-- TRANSMIT_MOVE (R121, R123). -/
def execTransmitMove (m : Moment) (l : LineId) (s : State) : Result :=
  if !s.inReset && transmitMoveFaults s l then .fault .stagingOutOfRange
  else .next (takeStep m (fun x => transmitMove x l) s)

/-- TICK_STEP (R137): the timers that reach their limit expire within it (R138). -/
def execTickStep (m : Moment) (s : State) : Result := .next (takeEarlyStep m takeTick s)

/-- EXPIRY (R138): the visit that brings timer `n` to its limit, by itself. -/
def execExpiry (m : Moment) (n : TimerId) (s : State) : Result := .next (takeEarlyStep m (fun x => takeExpiry x n) s)

/-- PULSE_END (R146). -/
def execPulseEnd (m : Moment) (t : TargetId) (s : State) : Result := .next (takeEarlyStep m (fun x => endPulse x t) s)

/-- BUTTON_PRESS (R148): the sample that completes a press, by itself; nothing when the next sample completes none. -/
def execButtonPress (m : Moment) (s : State) : Result :=
  .next (takeEarlyStep m (fun x => if x.rsc.presses x.pins.restartIn then sampleButton x else x) s)

/-- The index of the next XR sampling on the microsecond base (R153). -/
def State.nextMicro (s : State) : Nat := nextIndex s.sched.lastMicro s.now Config.periodsPerMicro

/-- Raise the edge of an XR source whose new sample is high and whose previous one was low (R38). -/
def raiseXr (old new : BitVec 16) (s : State) (i : SourceId) : State :=
  if i.val < 16 ∧ new.getLsbD i.val = true ∧ old.getLsbD i.val = false then s.raise i else s

/-- An XR sampling (R38): all sixteen pins in one step. -/
def sampleXr (s : State) : State :=
  let k := s.nextMicro
  let s₁ := s.advanceTo (k * Config.periodsPerMicro)
  let s₂ : State := { s₁ with sched := { s₁.sched with lastMicro := k }, xrSample := s.pins.xr }
  allSources.foldl (raiseXr s.xrSample s.pins.xr) s₂

/-- XR_SAMPLING (R38). -/
def execXrSampling (m : Moment) (s : State) : Result := .next (takeStep m sampleXr s)

/-- BUTTON_SAMPLE (R148): with the press it completes, if it completes one. -/
def execButtonSample (m : Moment) (s : State) : Result := .next (takeEarlyStep m sampleButton s)

/-- RECEIVER_SAMPLE (R82, R83). It is no step of the hub (spec/05, section 5.3), so no end of step follows. -/
def execReceiverSample (m : Moment) (l : LineId) (s : State) : Result :=
  .next (if s.inReset then { s with pins := m.pins } else sampleReceiver (s.enter m) l)

end Sys2Proof.Machine
end

