-- ==== Sys2Proof/Machine/ServicePort.lean ====
section
/-! DEFINITION. The commands of service frames (spec/02): when one executes, what it answers in its own frame or posts for
a later one, and what each does. -/

namespace Sys2Proof.Machine

open Sys2Proof

/-! ### Execution (R21 to R25) -/

/-- The state with this frame in progress, its last edge of SVC_CLK seen. -/
def State.setFrame (s : State) (f : Frame) : State :=
  { s with svc := { s.svc with frame := some f, sel := true, clk := s.pins.svcClk } }

/-- The frame that a command of these bits completes: the one in progress, or, when there is none or its command has
executed (R21: at most once in a frame), a frame of its own (log 11). -/
def State.frameOf (s : State) (bits : List Bool) : Frame :=
  let f : Frame := match s.svc.frame with
    | some f => if f.executed then .begun s.alertSummary else f
    | none => .begun s.alertSummary
  { f with bits := bits ++ f.bits.drop bits.length }

/-- The status byte of a read-type frame (R22): SVC_ALERT after the frame's own step, and its own result. -/
def State.readStatus (s : State) (r : Reason) : Byte :=
  (BitVec.ofBool s.svc.alert).setWidth 8 <<< 7 ||| r.code.setWidth 8

/-- What a command does: the state, its result, and the data a read-type command returns. -/
structure Reply where
  state : State
  result : Reason
  data : Word

/-- A refused command changes nothing of its own and returns zero data (R22). -/
def refuseCommand (s : State) (r : Reason) : Reply := ⟨s, r, 0⟩

/-- A read-type command executes at bit 23 (R21): its result is in the status byte of the same frame (R22). A release of
SVC_SEL at this instant follows (R152). While the hub waits for the release that R19 asks for after RESET_N no frame is
in progress, and no command executes. -/
def readCommand (m : Moment) (code : Byte) (arg : BitVec 16) (act : State → Reply) (s : State) : State :=
  if s.inReset then { s with pins := m.pins }
  else
    let x := s.arrive m
    if x.svc.waitRelease then endOfStep x.look
    else
      let y := endOfStep (act x).state
      (y.setFrame
        { x.frameOf ((frameBits code arg 0).take 24) with
          executed := true, status := some (y.readStatus (act x).result), data := (act x).data }).look

/-- The posted record is replaced whole, and a result other than OK sets POSTED_REFUSED (R23). -/
def State.post (s : State) (r : Reason) (code : Byte) (arg : BitVec 16) : State :=
  let s₁ : State := { s with svc := { s.svc with posted := ⟨r.code, code, arg⟩ } }
  if r = .ok then s₁ else s₁.setSticky postedRefusedBit

/-- A write-type command or an unknown code executes at bit 63 (R21) and posts its result (R23); the status byte of its
frame was formed at the end of byte 2 (R22). The release of SVC_SEL and the wait of R19 are as for a read-type command. -/
def writeCommand (m : Moment) (code : Byte) (arg : BitVec 16) (data : Word) (act : State → Reply) (s : State) : State :=
  if s.inReset then { s with pins := m.pins }
  else
    let x := s.arrive m
    if x.svc.waitRelease then endOfStep x.look
    else
      let y := endOfStep ((act x).state.post (act x).result code arg)
      let f := x.frameOf (frameBits code arg data)
      (y.setFrame { f with executed := true, status := some (f.status.getD x.writeStatus), data := 0 }).look

/-- An aborted frame (R24): the abort count increments, saturating, and nothing else changes. The frame is one whose
release has been seen, or else the one in progress (log 11). -/
def abortFrame (s : State) : State :=
  { s with svc := { s.svc with
      frame := if s.svc.aborts = 0 then none else s.svc.frame
      aborts := s.svc.aborts - 1
      abortCount := satInc s.svc.abortCount } }

/-! ### Read-type commands -/

/-- STATUS (R23). -/
def statusCommand (arg : BitVec 16) (s : State) : Reply :=
  if arg = 0 then ⟨s, .ok, postedWord s.svc.posted⟩ else refuseCommand s .badValue

/-- READ (R26): existence, permission, then the item's value without any consuming effect. -/
def readItem (arg : BitVec 16) (s : State) : Reply :=
  match decodeItem arg with
  | none => refuseCommand s .noItem
  | some it =>
    if svcAccess it = .none then refuseCommand s .notPermitted else ⟨s, .ok, s.itemWord it⟩

/-- POP (R28). -/
def popCommand (arg : BitVec 16) (s : State) : Reply :=
  match lineOfArg arg with
  | none => refuseCommand s .badValue
  | some l =>
    if (s.line l).serv.rx.isEmpty then refuseCommand s .empty
    else ⟨popEntry s l .service, .ok, rxHeadWord (s.line l).serv.rx⟩

/-- The states of ten sources from `base` on, three bits each (spec/02, section 2.7). -/
def State.snapSources (s : State) (base : Nat) : Word :=
  (List.range 10).foldl
    (fun w j => if h : base + j < 38 then w ||| place (s.src ⟨base + j, h⟩).state.code (3 * j) else w) 0

/-- SNAP_TGT of a target (spec/02, section 2.7). -/
def State.snapTarget (s : State) (t : TargetId) : Word :=
  place (s.tgt t).cpl 0 ||| placeNat (s.tgt t).stack.length 5 ||| place (s.offerLevel t) 9
    ||| placeNat (s.tgt t).urgent.length 14 ||| place (s.restart t).state.code 17

/-- The whole snapshot record of this state (R35). -/
def State.snapshot (s : State) : Snapshot :=
  ⟨s.svc.snap.seq + 1,
   #v[s.snapSources 0, s.snapSources 10, s.snapSources 20, s.snapSources 30],
   #v[s.snapTarget 0, s.snapTarget 1, s.snapTarget 2, s.snapTarget 3]⟩

/-- SNAPSHOT (R35). -/
def snapshotCommand (arg : BitVec 16) (s : State) : Reply :=
  if arg = 0 then ⟨{ s with svc := { s.svc with snap := s.snapshot } }, .ok, 0⟩
  else refuseCommand s .badValue

/-! ### Write-type commands -/

/-- WRITE (R26): existence, permission, direction, value. No item the service port writes has a state refusal (R23). -/
def writeItemCommand (arg : BitVec 16) (data : Word) (s : State) : Reply :=
  match decodeItem arg with
  | none => refuseCommand s .noItem
  | some it =>
    match svcAccess it with
    | .none => refuseCommand s .notPermitted
    | .read => refuseCommand s .readOnly
    | .readWrite => if s.badValue it data then refuseCommand s .badValue else ⟨writeItem s it data, .ok, 0⟩

/-- PUSH (R28). -/
def pushCommand (arg : BitVec 16) (data : Word) (s : State) : Reply :=
  match lineOfArg arg with
  | none => refuseCommand s .badValue
  | some l =>
    if Config.queueDepth ≤ (s.line l).serv.tx.length then refuseCommand s .full
    else ⟨pushChar s l .service (field data 0 8), .ok, 0⟩

/-- SEIZE_LINE (R108). -/
def seizeCommand (arg : BitVec 16) (s : State) : Reply :=
  match lineOfArg arg with
  | none => refuseCommand s .badValue
  | some l => ⟨seize s l, if s.seizeDenied l then .seizeDenied else .ok, 0⟩

/-- YIELD_LINE (R108). -/
def yieldCommand (arg : BitVec 16) (s : State) : Reply :=
  match lineOfArg arg with
  | none => refuseCommand s .badValue
  | some l => ⟨yieldLine s l, .ok, 0⟩

/-- RING (R33). -/
def ringCommand (arg : BitVec 16) (data : Word) (s : State) : Reply :=
  match targetOfArg arg with
  | none => refuseCommand s .badValue
  | some t =>
    if (s.bell t).unread then refuseCommand s .pendingUnread else ⟨s.setBell t ⟨data, true⟩, .ok, 0⟩

/-- RESTART (R29, R147): mode 0 a PULSE, mode 1 a HOLD request, with cause SERVICE. -/
def restartCommand (arg : BitVec 16) (s : State) : Reply :=
  match targetModeOfArg arg with
  | none => refuseCommand s .badValue
  | some (t, hold) => ⟨if hold then requestHold s t .service else requestPulse s t .service, .ok, 0⟩

/-- RELEASE_TARGET (R29, R144). -/
def releaseCommand (arg : BitVec 16) (s : State) : Reply :=
  match targetOfArg arg with
  | none => refuseCommand s .badValue
  | some t => ⟨requestRelease s t, .ok, 0⟩

/-- HOLD (R75). -/
def holdCommand (arg : BitVec 16) (s : State) : Reply :=
  match targetModeOfArg arg with
  | none => refuseCommand s .badValue
  | some (t, h) => ⟨s.setTgt t { s.tgt t with hold := h }, .ok, 0⟩

/-- ALERT_CLEAR (R32): clears each sticky flag whose bit is set in the data word. -/
def alertClearCommand (arg : BitVec 16) (data : Word) (s : State) : Reply :=
  if arg = 0 then
    ⟨{ s with svc := { s.svc with sticky := s.svc.sticky &&& ~~~(field data 0 8) } }, .ok, 0⟩
  else refuseCommand s .badValue

/-- CLEAR_ALL from the service port (R156, R36). -/
def clearAllCommand (arg : BitVec 16) (s : State) : Reply :=
  if arg = 0 then ⟨clearAll s, .ok, 0⟩ else refuseCommand s .badValue

end Sys2Proof.Machine
end

