-- ==== Sys2Proof/Machine/ServiceCommands.lean ====
section
/-! DEFINITION. The meanings of the service port's commands, one definition for each row. The command codes are those of
R21. -/

namespace Sys2Proof.Machine

open Sys2Proof

/-- STATUS, code 0x00 (R23). -/
def execStatus (m : Moment) (arg : BitVec 16) (s : State) : Result := .next (readCommand m 0x00 arg (statusCommand arg) s)

/-- READ, code 0x01 (R26). -/
def execRead (m : Moment) (arg : BitVec 16) (s : State) : Result := .next (readCommand m 0x01 arg (readItem arg) s)

/-- POP, code 0x02 (R28). -/
def execPop (m : Moment) (arg : BitVec 16) (s : State) : Result := .next (readCommand m 0x02 arg (popCommand arg) s)

/-- SNAPSHOT, code 0x03 (R35). -/
def execSnapshot (m : Moment) (arg : BitVec 16) (s : State) : Result :=
  .next (readCommand m 0x03 arg (snapshotCommand arg) s)

/-- WRITE, code 0x10 (R26, R27). -/
def execWrite (m : Moment) (arg : BitVec 16) (data : Word) (s : State) : Result :=
  .next (writeCommand m 0x10 arg data (writeItemCommand arg data) s)

/-- LINE_CONTROL_START: a WRITE of START to LINE_CONTROL (R81). -/
def execLineControlStart (m : Moment) (l : LineId) (high : BitVec 30) (s : State) : Result :=
  .next (writeCommand m 0x10 (Item.line l .control).number (high ++ 1#2)
    (writeItemCommand (Item.line l .control).number (high ++ 1#2)) s)

/-- LINE_CONTROL_STOP: a WRITE of STOP to LINE_CONTROL (R81). -/
def execLineControlStop (m : Moment) (l : LineId) (high : BitVec 30) (s : State) : Result :=
  .next (writeCommand m 0x10 (Item.line l .control).number (high ++ 2#2)
    (writeItemCommand (Item.line l .control).number (high ++ 2#2)) s)

/-- LINE_CONTROL_CLEAR: a WRITE of CLEAR to LINE_CONTROL (R81, R96). -/
def execLineControlClear (m : Moment) (l : LineId) (high : BitVec 30) (s : State) : Result :=
  .next (writeCommand m 0x10 (Item.line l .control).number (high ++ 3#2)
    (writeItemCommand (Item.line l .control).number (high ++ 3#2)) s)

/-- LINE_SERR: a WRITE to LINE_SERR (R92). -/
def execLineSerr (m : Moment) (l : LineId) (data : Word) (s : State) : Result :=
  .next (writeCommand m 0x10 (Item.line l .serr).number data
    (writeItemCommand (Item.line l .serr).number data) s)

/-- PUSH, code 0x11 (R28). -/
def execPush (m : Moment) (arg : BitVec 16) (data : Word) (s : State) : Result :=
  .next (writeCommand m 0x11 arg data (pushCommand arg data) s)

/-- SEIZE_LINE, code 0x20 (R108): the data word is ignored. -/
def execSeizeLine (m : Moment) (arg : BitVec 16) (data : Word) (s : State) : Result :=
  .next (writeCommand m 0x20 arg data (seizeCommand arg) s)

/-- YIELD_LINE, code 0x21 (R108): the data word is ignored. -/
def execYieldLine (m : Moment) (arg : BitVec 16) (data : Word) (s : State) : Result :=
  .next (writeCommand m 0x21 arg data (yieldCommand arg) s)

/-- RING, code 0x30 (R33). -/
def execRing (m : Moment) (arg : BitVec 16) (data : Word) (s : State) : Result :=
  .next (writeCommand m 0x30 arg data (ringCommand arg data) s)

/-- RESTART, code 0x31 (R147): the data word is ignored. -/
def execRestart (m : Moment) (arg : BitVec 16) (data : Word) (s : State) : Result :=
  .next (writeCommand m 0x31 arg data (restartCommand arg) s)

/-- RELEASE_TARGET, code 0x32 (R144): the data word is ignored. -/
def execReleaseTarget (m : Moment) (arg : BitVec 16) (data : Word) (s : State) : Result :=
  .next (writeCommand m 0x32 arg data (releaseCommand arg) s)

/-- HOLD, code 0x33 (R75): the data word is ignored. -/
def execHold (m : Moment) (arg : BitVec 16) (data : Word) (s : State) : Result :=
  .next (writeCommand m 0x33 arg data (holdCommand arg) s)

/-- ALERT_CLEAR, code 0x40 (R32). -/
def execAlertClear (m : Moment) (arg : BitVec 16) (data : Word) (s : State) : Result :=
  .next (writeCommand m 0x40 arg data (alertClearCommand arg data) s)

/-- CLEAR_ALL, code 0x7F (R156): the data word is ignored. -/
def execClearAll (m : Moment) (arg : BitVec 16) (data : Word) (s : State) : Result :=
  .next (writeCommand m 0x7F arg data (clearAllCommand arg) s)

/-- BAD_COMMAND: an unknown code (R21, R23). Only the posted record and POSTED_REFUSED change. -/
def execBadCommand (m : Moment) (code : Byte) (arg : BitVec 16) (data : Word) (s : State) : Result :=
  .next (writeCommand m code arg data (fun x => refuseCommand x .badCommand) s)

/-- ABORTED_FRAME (R24). A release that ends the wait of R19 ends no frame. -/
def execAbortedFrame (m : Moment) (s : State) : Result :=
  .next (takeStep m (fun x => if (s.arrive m).svc.waitRelease then x else abortFrame x) s)

end Sys2Proof.Machine
end

