-- ==== Sys2Proof/Machine/Dispatch.lean ====
section
/-! DEFINITION. One arm for each command. -/

namespace Sys2Proof.Machine

open Sys2Proof

def exec (i : Instr) (s : State) : Host.Outcome State Fault Refusal :=
  match i with
  | .resetNAssert m => Sys2Proof.Machine.execResetNAssert m s
  | .resetNRelease m => Sys2Proof.Machine.execResetNRelease m s
  | .hostTransactionBegin m write priv num data => Sys2Proof.Machine.execHostTransactionBegin m write priv num data s
  | .registerWrite m priv num data => Sys2Proof.Machine.execRegisterWrite m priv num data s
  | .hubFaultAck m priv data => Sys2Proof.Machine.execHubFaultAck m priv data s
  | .hubFlowCount m priv data => Sys2Proof.Machine.execHubFlowCount m priv data s
  | .hubClearAll m priv data => Sys2Proof.Machine.execHubClearAll m priv data s
  | .lineRxWait m priv l => Sys2Proof.Machine.execLineRxWait m priv l s
  | .lineTxWait m priv l data => Sys2Proof.Machine.execLineTxWait m priv l data s
  | .heldRequestCompletion m => Sys2Proof.Machine.execHeldRequestCompletion m s
  | .waitLimitExpiry m => Sys2Proof.Machine.execWaitLimitExpiry m s
  | .srcEntry m priv src data => Sys2Proof.Machine.execSrcEntry m priv src data s
  | .srcStatus m priv src data => Sys2Proof.Machine.execSrcStatus m priv src data s
  | .tgtTake m priv t => Sys2Proof.Machine.execTgtTake m priv t s
  | .tgtTakeUrgent m priv t => Sys2Proof.Machine.execTgtTakeUrgent m priv t s
  | .tgtDone m priv t data => Sys2Proof.Machine.execTgtDone m priv t data s
  | .tgtFloor m priv t data => Sys2Proof.Machine.execTgtFloor m priv t data s
  | .tgtUrgentStatus m priv t data => Sys2Proof.Machine.execTgtUrgentStatus m priv t data s
  | .doorbellWord m priv t => Sys2Proof.Machine.execDoorbellWord m priv t s
  | .lineStart m priv l data => Sys2Proof.Machine.execLineStart m priv l data s
  | .lineStop m priv l data => Sys2Proof.Machine.execLineStop m priv l data s
  | .lineClear m priv l data => Sys2Proof.Machine.execLineClear m priv l data s
  | .lineControlStart m l high => Sys2Proof.Machine.execLineControlStart m l high s
  | .lineControlStop m l high => Sys2Proof.Machine.execLineControlStop m l high s
  | .lineControlClear m l high => Sys2Proof.Machine.execLineControlClear m l high s
  | .lineRx m priv l => Sys2Proof.Machine.execLineRx m priv l s
  | .lineTx m priv l data => Sys2Proof.Machine.execLineTx m priv l data s
  | .linePerr m priv l data => Sys2Proof.Machine.execLinePerr m priv l data s
  | .lineSerr m l data => Sys2Proof.Machine.execLineSerr m l data s
  | .releaseLine m priv l data => Sys2Proof.Machine.execReleaseLine m priv l data s
  | .reclaimLine m priv l data => Sys2Proof.Machine.execReclaimLine m priv l data s
  | .unlockSeize m priv l data => Sys2Proof.Machine.execUnlockSeize m priv l data s
  | .tsqSubmit m priv n data => Sys2Proof.Machine.execTsqSubmit m priv n data s
  | .resume m priv n high => Sys2Proof.Machine.execResume m priv n high s
  | .abort m priv n high => Sys2Proof.Machine.execAbort m priv n high s
  | .tsqRecord m priv n => Sys2Proof.Machine.execTsqRecord m priv n s
  | .tsqDiscarded m priv n data => Sys2Proof.Machine.execTsqDiscarded m priv n data s
  | .ttmTick m priv data => Sys2Proof.Machine.execTtmTick m priv data s
  | .start m priv n high => Sys2Proof.Machine.execStart m priv n high s
  | .stop m priv n high => Sys2Proof.Machine.execStop m priv n high s
  | .ack m priv n high => Sys2Proof.Machine.execAck m priv n high s
  | .ttmStatus m priv n data => Sys2Proof.Machine.execTtmStatus m priv n data s
  | .rscRestart m priv data => Sys2Proof.Machine.execRscRestart m priv data s
  | .status m arg => Sys2Proof.Machine.execStatus m arg s
  | .read m arg => Sys2Proof.Machine.execRead m arg s
  | .pop m arg => Sys2Proof.Machine.execPop m arg s
  | .snapshot m arg => Sys2Proof.Machine.execSnapshot m arg s
  | .write m arg data => Sys2Proof.Machine.execWrite m arg data s
  | .push m arg data => Sys2Proof.Machine.execPush m arg data s
  | .seizeLine m arg data => Sys2Proof.Machine.execSeizeLine m arg data s
  | .yieldLine m arg data => Sys2Proof.Machine.execYieldLine m arg data s
  | .ring m arg data => Sys2Proof.Machine.execRing m arg data s
  | .restart m arg data => Sys2Proof.Machine.execRestart m arg data s
  | .releaseTarget m arg data => Sys2Proof.Machine.execReleaseTarget m arg data s
  | .hold m arg data => Sys2Proof.Machine.execHold m arg data s
  | .alertClear m arg data => Sys2Proof.Machine.execAlertClear m arg data s
  | .clearAll m arg data => Sys2Proof.Machine.execClearAll m arg data s
  | .badCommand m code arg data => Sys2Proof.Machine.execBadCommand m code arg data s
  | .abortedFrame m => Sys2Proof.Machine.execAbortedFrame m s
  | .receiverCompletion m l given => Sys2Proof.Machine.execReceiverCompletion m l given s
  | .transmitterStart m l => Sys2Proof.Machine.execTransmitterStart m l s
  | .transmitterCompletion m l => Sys2Proof.Machine.execTransmitterCompletion m l s
  | .receiveMove m l => Sys2Proof.Machine.execReceiveMove m l s
  | .transmitMove m l => Sys2Proof.Machine.execTransmitMove m l s
  | .tickStep m => Sys2Proof.Machine.execTickStep m s
  | .expiry m n => Sys2Proof.Machine.execExpiry m n s
  | .pulseEnd m t => Sys2Proof.Machine.execPulseEnd m t s
  | .buttonPress m => Sys2Proof.Machine.execButtonPress m s
  | .xrSampling m => Sys2Proof.Machine.execXrSampling m s
  | .buttonSample m => Sys2Proof.Machine.execButtonSample m s
  | .receiverSample m l => Sys2Proof.Machine.execReceiverSample m l s

end Sys2Proof.Machine
end

