-- ==== Sys2Proof/Machine/Schedule.lean ====
section
/-! DEFINITION. The order of steps (spec/10, R152, R153): the class position of each command, the steps that are due
on a state, by its pins or of the hub's own, which of them comes next, and the passing of time. -/

namespace Sys2Proof.Machine

open Sys2Proof

/-! ### Class positions (R152) -/

/-- The position of a command's step among the steps of one instant (R152). RECEIVER_SAMPLE, which is no step, stands
with the receiver completion it may make due. -/
def position : Instr → Nat
  | .resetNAssert _ | .resetNRelease _ => 1
  | .pulseEnd _ _ | .buttonPress _ | .buttonSample _ => 2
  | .tickStep _ | .expiry _ _ => 3
  | .status _ _ | .read _ _ | .pop _ _ | .snapshot _ _ | .write _ _ _ | .push _ _ _ | .seizeLine _ _ _
  | .yieldLine _ _ _ | .ring _ _ _ | .restart _ _ _ | .releaseTarget _ _ _ | .hold _ _ _ | .alertClear _ _ _
  | .clearAll _ _ _ | .badCommand _ _ _ _ | .abortedFrame _ | .lineControlStart _ _ _ | .lineControlStop _ _ _
  | .lineControlClear _ _ _ | .lineSerr _ _ _ => 4
  | .receiverCompletion _ _ _ | .receiverSample _ _ => 6
  | .transmitterStart _ _ | .transmitterCompletion _ _ => 7
  | .receiveMove _ _ | .transmitMove _ _ => 8
  | .xrSampling _ => 9
  | _ => 5

/-- The place of a command within its class (R152): targets in ascending number before the button sample and its press;
an abort after the command of its frame; line A before line B; lanes in ascending number. -/
def placeInClass : Instr → Nat
  | .pulseEnd _ t => t.val
  | .buttonSample _ | .buttonPress _ => 4
  | .expiry _ n => n.val
  | .abortedFrame _ => 1
  | .receiverCompletion _ l _ | .receiverSample _ l | .transmitterStart _ l | .transmitterCompletion _ l =>
    match l with
    | .a => 0
    | .b => 1
  | .receiveMove _ l => (rxLane l).val
  | .transmitMove _ l => (txLane l).val
  | _ => 0

/-- A command precedes another of the same instant (R152): an earlier class, or an earlier place in the same class. -/
def precedes (c d : Instr) : Bool :=
  decide (position c < position d) || (decide (position c = position d) && decide (placeInClass c < placeInClass d))

/-- Insert a command of an instant in front of those it precedes. -/
def insertStep (c : Instr) : List Instr → List Instr
  | [] => [c]
  | d :: rest => if precedes c d then c :: d :: rest else d :: insertStep c rest

/-- The commands of one instant in the order of R152; the given order stands between commands of one place. -/
def inStepOrder (cs : List Instr) : List Instr := cs.foldl (fun acc c => insertStep c acc) []

/-- The environment presents the commands of one instant: they join the queue in the order of R152. -/
def State.present (s : State) (cs : List Instr) : State := { s with pending := s.pending ++ inStepOrder cs }

/-! ### The hub's own steps that are due -/

/-- The held request completes or ends (R10, evaluations 1 and 2; the limit's expiry stands at the host port's own
position, R11). -/
def State.heldDue (s : State) : Bool :=
  match s.heldRequest with
  | none => false
  | some h => (s.endingReason h.line h.write).isSome || (s.twinRefusal h.line h.write).isNone

/-- The held request's limit has expired (R11). -/
def State.expiryDue (s : State) : Bool :=
  match s.heldRequest with
  | none => false
  | some h => decide (h.deadline ≤ s.now)

/-- A pulse ends now (R146). -/
def State.pulseDue (s : State) (t : TargetId) : Bool :=
  match (s.restart t).state with
  | .pulse ends => decide (ends ≤ s.now)
  | _ => false

/-- A button sample falls due now (R153). -/
def State.milliDue (s : State) : Bool := decide (s.nextMilli * Config.periodsPerMilli = s.now)

/-- A tick falls due now (R132). -/
def State.tickDue (s : State) : Bool := decide (s.tick.origin + s.nextTick * s.tick.period = s.now)

/-- An XR sampling falls due now (R153). -/
def State.microDue (s : State) : Bool := decide (s.nextMicro * Config.periodsPerMicro = s.now)

/-- A receiver samples its pin now (R82). -/
def State.sampleDue (s : State) (l : LineId) : Bool :=
  decide ((s.line l).state = .running)
    && decide ((s.line l).sampleInstant ((s.line l).nextSample s.now) = s.now)

/-- A receiver completion is due (R83). -/
def State.receiveDue (s : State) (l : LineId) : Bool :=
  decide ((s.line l).state = .running) && ((s.line l).frameOf s.now none).isSome

/-- A transmitter completion is due (R91). -/
def State.transmitDue (s : State) (l : LineId) : Bool :=
  match (s.line l).tx with
  | none => false
  | some c => decide ((s.line l).txEnd c ≤ s.now)

/-- A move of lane `n` is due (R121). -/
def State.moveDue (s : State) (n : LaneId) : Bool :=
  match (s.lane n).state with
  | .running _ _ =>
    let x := if n.val < 2 then s.lineA else s.lineB
    if isTxLane n then decide (x.prog.tx.length < Config.queueDepth) else !x.prog.rx.isEmpty
  | _ => false

/-- The move of lane `n` as a command. -/
def moveCommand (m : Moment) : LaneId → Instr
  | 0 => .receiveMove m .a
  | 1 => .transmitMove m .a
  | 2 => .receiveMove m .b
  | 3 => .transmitMove m .b

/-- The moves that are due, in rounds (R121): lanes that have not moved in this round first, in ascending number. -/
def State.dueMoves (s : State) : List (Bool × Instr) :=
  let lanes : List LaneId := [0, 1, 2, 3]
  lanes.map (fun n => (s.moveDue n && !s.sched.moved.contains n, moveCommand s.here n))
    ++ lanes.map (fun n => (s.moveDue n, moveCommand s.here n))

/-- The transmitter starts that are due, line A first (R90). -/
def State.dueStarts (s : State) : List (Bool × Instr) :=
  [(s.lineA.startDue, .transmitterStart s.here .a), (s.lineB.startDue, .transmitterStart s.here .b)]

/-- The steps that another step made due and that come ahead of the rest (R152): the held request; then, in the order of
their classes, the starts and the moves whose position has been passed. A start that becomes due after the first move of
the instant comes ahead of the moves that are left, whether position 7 has been passed or not: by its own position or at
once. -/
def State.madeDue (s : State) : List (Bool × Instr) :=
  [(s.heldDue, .heldRequestCompletion s.here)]
    ++ (if s.sched.passed7 || s.sched.passed8 then s.dueStarts else [])
    ++ (if s.sched.passed8 then s.dueMoves else [])

/-- The steps of positions 2 and 3 (R152). -/
def State.earlySteps (s : State) : List (Bool × Instr) :=
  [(s.pulseDue 0, .pulseEnd s.here 0), (s.pulseDue 1, .pulseEnd s.here 1),
   (s.pulseDue 2, .pulseEnd s.here 2), (s.pulseDue 3, .pulseEnd s.here 3),
   (s.milliDue, .buttonSample s.here),
   (s.tickDue, .tickStep s.here)]

/-- The host transaction that the pins present (R1): HREQ asserted while no transaction is in progress. -/
def State.requestDue (s : State) : Bool := s.pins.hreq && decide (s.host.phase = .idle)

/-- That transaction as a command. -/
def State.requested (s : State) : Instr :=
  .hostTransactionBegin s.here s.pins.hwr s.pins.hpriv s.pins.hitem s.pins.hdata

/-- The steps of positions 4 and 5 (R152): the command of a frame, then the abort count of a released one; a host
transaction, or the expiry of a held request. -/
def State.portSteps (s : State) : List (Bool × Instr) :=
  [(s.frameCommand.isSome, s.frameCommand.getD (.abortedFrame s.here)),
   (decide (s.svc.aborts ≠ 0), .abortedFrame s.here),
   (s.requestDue, s.requested),
   (s.expiryDue, .waitLimitExpiry s.here)]

/-- The steps of positions 6 to 9 (R152). -/
def State.laterSteps (s : State) : List (Bool × Instr) :=
  [(s.sampleDue .a, .receiverSample s.here .a), (s.receiveDue .a, .receiverCompletion s.here .a none),
   (s.sampleDue .b, .receiverSample s.here .b), (s.receiveDue .b, .receiverCompletion s.here .b none),
   (s.transmitDue .a, .transmitterCompletion s.here .a), (s.lineA.startDue, .transmitterStart s.here .a),
   (s.transmitDue .b, .transmitterCompletion s.here .b), (s.lineB.startDue, .transmitterStart s.here .b)]
    ++ s.dueMoves ++ [(s.microDue, .xrSampling s.here)]

/-- The first step of a list that is due. -/
def firstDue (l : List (Bool × Instr)) : Option Instr := (l.find? (·.1)).map (·.2)

/-- The next step of the hub's own at this instant, ahead of the service port's position (R152). -/
def nextEarly (s : State) : Option Instr := firstDue (s.madeDue ++ s.earlySteps)

/-- The next step of the hub's own at this instant from the service port's position on (R152), on a state on which the
service port has looked at its pins. -/
def nextLate (s : State) : Option Instr := firstDue (s.portSteps ++ s.laterSteps)

/-- One REFCLK period passes (R153): the pins take the levels that are coming, if any are. -/
def passTime (s : State) : State :=
  let p := s.coming.headD s.pins
  { s with
    now := s.now + 1
    pins := p
    coming := s.coming.tail
    sched := s.sched.newInstant
    host := s.host.seeReq p.hreq }

end Sys2Proof.Machine
end

