-- ==== Sys2Proof/Machine/Step.lean ====
section
/-! DEFINITION. One step of the block: the command at the front of the queue; with an empty queue the step that is
due next, or one REFCLK period of time (log 3). -/

namespace Sys2Proof.Machine

open Sys2Proof

/-- With no command waiting, the hub takes the step that is due next (R152): one ahead of the service port's position, or
else one from there on, when the service port has looked at its pins; if none is due, time passes. While RESET_N is low
nothing happens (R153, R155). -/
def idle (s : State) : Host.Outcome State Fault Refusal :=
  if s.inReset then .next s
  else
    match nextEarly s with
    | some c => exec c s
    | none =>
      match nextLate s.look with
      | some c => exec c s.look
      | none => .next (passTime s.look)

/-- One step. -/
def step (s : State) : Host.Outcome State Fault Refusal :=
  match s.pending with
  | c :: rest => exec c { s with pending := rest }
  | [] => idle s

/-- The state with the command that a table word spells at the front of its queue: no row of the table gives bits, so
no word spells one and the state is unchanged. -/
def State.withFetchWord (s : State) (nbits w : Nat) : State :=
  match decodeTableWord nbits w with
  | some c => { s with pending := c :: s.pending }
  | none => s

end Sys2Proof.Machine
end

