-- ==== Sys2Proof/Safety.lean ====
section
/-! DEFINITION. What a consistent hub is, and the words in which claims about steps are written: the conditions under
which a port takes a command, what a completion leaves on the host bus, what a service frame leaves, and the invariants
that every step keeps. -/

namespace Sys2Proof

/-- The instant of a command. -/
def Instr.moment : Instr → Moment
  | .resetNAssert m => m
  | .resetNRelease m => m
  | .hostTransactionBegin m _ _ _ _ => m
  | .registerWrite m _ _ _ => m
  | .hubFaultAck m _ _ => m
  | .hubFlowCount m _ _ => m
  | .hubClearAll m _ _ => m
  | .lineRxWait m _ _ => m
  | .lineTxWait m _ _ _ => m
  | .heldRequestCompletion m => m
  | .waitLimitExpiry m => m
  | .srcEntry m _ _ _ => m
  | .srcStatus m _ _ _ => m
  | .tgtTake m _ _ => m
  | .tgtTakeUrgent m _ _ => m
  | .tgtDone m _ _ _ => m
  | .tgtFloor m _ _ _ => m
  | .tgtUrgentStatus m _ _ _ => m
  | .doorbellWord m _ _ => m
  | .lineStart m _ _ _ => m
  | .lineStop m _ _ _ => m
  | .lineClear m _ _ _ => m
  | .lineControlStart m _ _ => m
  | .lineControlStop m _ _ => m
  | .lineControlClear m _ _ => m
  | .lineRx m _ _ => m
  | .lineTx m _ _ _ => m
  | .linePerr m _ _ _ => m
  | .lineSerr m _ _ => m
  | .releaseLine m _ _ _ => m
  | .reclaimLine m _ _ _ => m
  | .unlockSeize m _ _ _ => m
  | .tsqSubmit m _ _ _ => m
  | .resume m _ _ _ => m
  | .abort m _ _ _ => m
  | .tsqRecord m _ _ => m
  | .tsqDiscarded m _ _ _ => m
  | .ttmTick m _ _ => m
  | .start m _ _ _ => m
  | .stop m _ _ _ => m
  | .ack m _ _ _ => m
  | .ttmStatus m _ _ _ => m
  | .rscRestart m _ _ => m
  | .status m _ => m
  | .read m _ => m
  | .pop m _ => m
  | .snapshot m _ => m
  | .write m _ _ => m
  | .push m _ _ => m
  | .seizeLine m _ _ => m
  | .yieldLine m _ _ => m
  | .ring m _ _ => m
  | .restart m _ _ => m
  | .releaseTarget m _ _ => m
  | .hold m _ _ => m
  | .alertClear m _ _ => m
  | .clearAll m _ _ => m
  | .badCommand m _ _ _ => m
  | .abortedFrame m => m
  | .receiverCompletion m _ _ => m
  | .transmitterStart m _ => m
  | .transmitterCompletion m _ => m
  | .receiveMove m _ => m
  | .transmitMove m _ => m
  | .tickStep m => m
  | .expiry m _ => m
  | .pulseEnd m _ => m
  | .buttonPress m => m
  | .xrSampling m => m
  | .buttonSample m => m
  | .receiverSample m _ => m

/-- RESET_N_ASSERT and RESET_N_RELEASE. -/
def Instr.isReset : Instr → Bool
  | .resetNAssert _ | .resetNRelease _ => true
  | _ => false

/-- The host transaction that a host row presents: direction, HPRIV, item number and data word (0 for a read). The
numbers are those of spec/11, section 11.5. -/
def Instr.access : Instr → Option (Bool × Bool × ItemNumber × Word)
  | .hostTransactionBegin _ w priv num data => some (w, priv, num, data)
  | .registerWrite _ priv num data => some (true, priv, num, data)
  | .hubFaultAck _ priv data => some (true, priv, 0x0003, data)
  | .hubFlowCount _ priv data => some (true, priv, 0x0004, data)
  | .hubClearAll _ priv data => some (true, priv, 0x0005, data)
  | .lineRxWait _ priv l => some (false, priv, BitVec.ofNat 16 (256 * l.unit + 0x07), 0)
  | .lineTxWait _ priv l data => some (true, priv, BitVec.ofNat 16 (256 * l.unit + 0x09), data)
  | .srcEntry _ priv src data => some (true, priv, BitVec.ofNat 16 (0x0100 + 2 * src.val), data)
  | .srcStatus _ priv src data => some (true, priv, BitVec.ofNat 16 (0x0100 + 2 * src.val + 1), data)
  | .tgtTake _ priv t => some (false, priv, BitVec.ofNat 16 (0x0200 + 16 * t.val), 0)
  | .tgtTakeUrgent _ priv t => some (false, priv, BitVec.ofNat 16 (0x0200 + 16 * t.val + 1), 0)
  | .tgtDone _ priv t data => some (true, priv, BitVec.ofNat 16 (0x0200 + 16 * t.val + 2), data)
  | .tgtFloor _ priv t data => some (true, priv, BitVec.ofNat 16 (0x0200 + 16 * t.val + 5), data)
  | .tgtUrgentStatus _ priv t data => some (true, priv, BitVec.ofNat 16 (0x0200 + 16 * t.val + 13), data)
  | .doorbellWord _ priv t => some (false, priv, BitVec.ofNat 16 (0x0200 + 16 * t.val + 14), 0)
  | .lineStart _ priv l data => some (true, priv, BitVec.ofNat 16 (256 * l.unit + 0x02), data)
  | .lineStop _ priv l data => some (true, priv, BitVec.ofNat 16 (256 * l.unit + 0x03), data)
  | .lineClear _ priv l data => some (true, priv, BitVec.ofNat 16 (256 * l.unit + 0x04), data)
  | .lineRx _ priv l => some (false, priv, BitVec.ofNat 16 (256 * l.unit + 0x06), 0)
  | .lineTx _ priv l data => some (true, priv, BitVec.ofNat 16 (256 * l.unit + 0x08), data)
  | .linePerr _ priv l data => some (true, priv, BitVec.ofNat 16 (256 * l.unit + 0x0B), data)
  | .releaseLine _ priv l data => some (true, priv, BitVec.ofNat 16 (256 * l.unit + 0x0F), data)
  | .reclaimLine _ priv l data => some (true, priv, BitVec.ofNat 16 (256 * l.unit + 0x10), data)
  | .unlockSeize _ priv l data => some (true, priv, BitVec.ofNat 16 (256 * l.unit + 0x11), data)
  | .tsqSubmit _ priv n data => some (true, priv, BitVec.ofNat 16 (0x0500 + 8 * n.val + 2), data)
  | .resume _ priv n high => some (true, priv, BitVec.ofNat 16 (0x0500 + 8 * n.val + 3), high ++ 1#2)
  | .abort _ priv n high => some (true, priv, BitVec.ofNat 16 (0x0500 + 8 * n.val + 3), high ++ 2#2)
  | .tsqRecord _ priv n => some (false, priv, BitVec.ofNat 16 (0x0500 + 8 * n.val + 6), 0)
  | .tsqDiscarded _ priv n data => some (true, priv, BitVec.ofNat 16 (0x0500 + 8 * n.val + 7), data)
  | .ttmTick _ priv data => some (true, priv, 0x0600, data)
  | .start _ priv n high => some (true, priv, BitVec.ofNat 16 (0x0610 + 8 * n.val + 3), high ++ 1#2)
  | .stop _ priv n high => some (true, priv, BitVec.ofNat 16 (0x0610 + 8 * n.val + 3), high ++ 2#2)
  | .ack _ priv n high => some (true, priv, BitVec.ofNat 16 (0x0610 + 8 * n.val + 3), high ++ 3#2)
  | .ttmStatus _ priv n data => some (true, priv, BitVec.ofNat 16 (0x0610 + 8 * n.val + 4), data)
  | .rscRestart _ priv data => some (true, priv, 0x0700, data)
  | _ => none

end Sys2Proof

namespace Sys2Proof.Machine

open Sys2Proof

/-! ### When a port takes a command -/

/-- The host port begins a transaction: RESET_N is high and no request is held (R1, R12). -/
def State.hostFree (s : State) : Prop := s.inReset = false ∧ s.heldRequest = none

/-- The service port executes a command: RESET_N is high and no release of SVC_SEL is awaited (R19). -/
def State.svcFree (s : State) (m : Moment) : Prop := s.inReset = false ∧ (s.arrive m).svc.waitRelease = false

/-- The host port when it sees this level of HREQ: a completed transaction is over when HREQ is released, and HDONE and
HREFUSE go (R1). -/
def HostPort.reqSeen (h : HostPort) (hreq : Bool) : HostPort :=
  if h.phase = .completed ∧ hreq = false then { h with phase := .idle, hdone := false, hrefuse := false } else h

/-! ### What a completion leaves on the host bus -/

/-- The host port after a completion done with this word on HDATA (R1, R2). With HREQ already released the transaction
is over at once. -/
def HostPort.done (h : HostPort) (hreq : Bool) (w : Word) : HostPort :=
  { h with phase := if hreq then .completed else .idle, hdone := hreq, hrefuse := false, hdata := w }

/-- The fault record after a programming refusal (R13, R14). -/
def FaultRecord.after (f : FaultRecord) (num : ItemNumber) (r : Reason) (write priv : Bool) : FaultRecord :=
  if f.count = 0 then ⟨num, r.code, write, priv, false, 1⟩
  else { f with overflow := true, count := if f.count = 255 then 255 else f.count + 1 }

/-- The flow-refusal count after one more flow refusal (R16). -/
def flowAfter (c : BitVec 16) : BitVec 16 := if c = 65535 then 65535 else c + 1

/-- The host port after a refusal of a transaction of its own step (R2, R4): the reason code on HDATA; the fault record
for a programming refusal, the flow count for a flow refusal. -/
def HostPort.refused (h : HostPort) (hreq : Bool) (num : ItemNumber) (r : Reason) (write priv : Bool) : HostPort :=
  { h with
    phase := if hreq then .completed else .idle
    hdone := false
    hrefuse := hreq
    hdata := r.code.setWidth 32
    fault := if r.isProgramming then h.fault.after num r write priv else h.fault
    flowCount := if r.isProgramming then h.flowCount else flowAfter h.flowCount }

/-- The state with a host transaction completed done. -/
def State.hostDone (u : State) (w : Word) : State := { u with host := u.host.done u.pins.hreq w }

/-- The state with a host transaction refused. -/
def State.hostRefused (u : State) (num : ItemNumber) (r : Reason) (write priv : Bool) : State :=
  { u with host := u.host.refused u.pins.hreq num r write priv }

/-- The state with the held request completed done (R10). -/
def State.heldDone (u : State) (w : Word) : State := u.hostDone w

/-- The state with the held request refused with a flow reason: counted, never recorded (R12). -/
def State.heldRefused (u : State) (r : Reason) : State :=
  { u with host := { u.host with
      phase := if u.pins.hreq then .completed else .idle
      hdone := false
      hrefuse := u.pins.hreq
      hdata := r.code.setWidth 32
      flowCount := flowAfter u.host.flowCount } }

/-! ### What a service frame leaves -/

/-- The state with this frame in progress, and the edges of SVC_SEL and SVC_CLK that made it so seen (R19). -/
def State.withFrame (s : State) (f : Frame) : State :=
  { s with svc := { s.svc with frame := some f, sel := true, clk := s.pins.svcClk } }

/-- SVC_ALERT at its place in a status byte (R22). -/
def alertBit (alert : Bool) : Byte := if alert then 0x80 else 0

/-- `f` goes on from the frame in progress on `x` with the alert summary formed at its beginning; with no frame in
progress, or one whose command has executed, it is a frame of its own, whose summary is that of `x` (R20, log 11). -/
structure Frame.GoesOn (x : State) (f : Frame) : Prop where
  same : ∀ g, x.svc.frame = some g → g.executed = false → f.summary = g.summary
  own : (∀ g, x.svc.frame = some g → g.executed = true) → f.summary = x.alertSummary

/-- `t` is what a read-type frame leaves that carries this code and argument and finds `x`: the end of the step whose
action left `u`; in the frame the result in the status byte, with SVC_ALERT as it stands after the step, and the data
(R21, R22); then the release of SVC_SEL, if the pins show it (R152). -/
def ReadFrame (x t u : State) (code : Byte) (arg : BitVec 16) (r : Reason) (data : Word) : Prop :=
  ∃ f : Frame, t = ((endOfStep u).withFrame f).look ∧ f.code = code ∧ f.arg = arg ∧ 24 ≤ f.bits.length ∧
    f.executed = true ∧ f.data = data ∧ f.GoesOn x ∧
    f.status = some (alertBit (endOfStep u).svc.alert ||| r.code.setWidth 8)

/-- The state with the posted record replaced, and POSTED_REFUSED set by a result other than OK (R23). -/
def State.postedAs (u : State) (r : Reason) (code : Byte) (arg : BitVec 16) : State :=
  { u with svc := { u.svc with
      posted := ⟨r.code, code, arg⟩
      sticky := if r = .ok then u.svc.sticky else u.svc.sticky ||| 0x80 } }

/-- `t` is what a write-type or unknown frame leaves that carries this code, argument and data word and finds `x`: the end
of the step whose action left `u` and posted this result; a frame that returned no data and whose status byte was formed
at the end of its byte 2, or is formed on `x` if no bit of it has been seen (R21 to R23, log 11); then the release of
SVC_SEL, if the pins show it (R152). -/
def WriteFrame (x t u : State) (r : Reason) (code : Byte) (arg : BitVec 16) (word : Word) : Prop :=
  ∃ f : Frame, t = ((endOfStep (u.postedAs r code arg)).withFrame f).look ∧ f.code = code ∧ f.arg = arg ∧
    f.word = word ∧ 64 ≤ f.bits.length ∧ f.executed = true ∧ f.data = 0 ∧ f.GoesOn x ∧
    (∀ g b, x.svc.frame = some g → g.executed = false → g.status = some b → f.status = some b) ∧
    ((∀ g, x.svc.frame = some g → g.executed = true ∨ g.status = none) →
      f.status = some (alertBit x.svc.alert ||| 0x40 ||| x.svc.posted.result.setWidth 8))

/-- The frame's command is due: it has not executed, and the frame has the 24 bits of a read-type command or the 64 of a
write-type or unknown one (R21). -/
def Frame.complete (f : Frame) : Prop :=
  f.executed = false ∧ (if f.code.toNat < 4 then 24 else 64) ≤ f.bits.length

/-- The frame with one more bit (R19), which as the 24th of a write-type or unknown frame forms its status byte (R22); after
64 bits nothing more is sampled (R25). -/
def Frame.withBit (f : Frame) (din : Bool) (status : Byte) : Frame :=
  let g : Frame := { f with bits := f.bits ++ [din] }
  if 64 ≤ f.bits.length then f
  else if f.bits.length = 23 ∧ 4 ≤ g.code.toNat then { g with status := some status }
  else g

/-- The abort counts that are due after the release of this frame: one more if it had fewer than 64 bits (R24). -/
def ServicePort.abortsAfter (v : ServicePort) (f : Option Frame) : Nat :=
  match f with
  | none => v.aborts
  | some g => if g.bits.length < 64 then v.aborts + 1 else v.aborts

/-! ### The order of steps (R90, R121, R152, R153) -/

/-- `o` is the first command of the list whose condition holds, none if none does. -/
def FirstOf : List (Prop × Instr) → Option Instr → Prop
  | [], o => o = none
  | (p, c) :: rest, o => (p → o = some c) ∧ (¬ p → FirstOf rest o)

/-- The held request completes or ends on this state, its limit apart (R9, R10). -/
def State.heldEnds (s : State) : Prop :=
  ∃ h, s.heldRequest = some h ∧
    ((s.lane (if h.write then txLane h.line else rxLane h.line)).state ≠ .idle ∨
      (s.line h.line).owner ≠ .program ∨ (s.line h.line).state ≠ .running ∨
      (if h.write then (s.line h.line).prog.tx.length < 32 else (s.line h.line).prog.rx ≠ []))

/-- A transmitter start is due (R90). -/
def State.mayStart (s : State) (l : LineId) : Prop :=
  (s.line l).state = .running ∧ (s.line l).tx = none ∧
    (match (s.line l).owner with | .program => (s.line l).prog.tx | .service => (s.line l).serv.tx) ≠ []

/-- A move of lane `n` is due (R121). -/
def State.mayMove (s : State) (n : LaneId) : Prop :=
  (∃ j k, (s.lane n).state = .running j k) ∧
    (let y := s.line (if n.val < 2 then .a else .b)
     if n.val % 2 = 1 then y.prog.tx.length < 32 else y.prog.rx ≠ [])

/-- The moves in rounds (R121, log 8): in ascending number the lanes that have not moved in this round, then all. -/
def State.moveRounds (s : State) : List (Prop × Instr) :=
  [(s.mayMove 0 ∧ 0 ∉ s.sched.moved, .receiveMove s.here .a), (s.mayMove 1 ∧ 1 ∉ s.sched.moved, .transmitMove s.here .a),
   (s.mayMove 2 ∧ 2 ∉ s.sched.moved, .receiveMove s.here .b), (s.mayMove 3 ∧ 3 ∉ s.sched.moved, .transmitMove s.here .b),
   (s.mayMove 0, .receiveMove s.here .a), (s.mayMove 1, .transmitMove s.here .a),
   (s.mayMove 2, .receiveMove s.here .b), (s.mayMove 3, .transmitMove s.here .b)]

/-- A pulse of target `t` ends now (R146). -/
def State.pulseOver (s : State) (t : TargetId) : Prop := ∃ ends, (s.restart t).state = .pulse ends ∧ ends ≤ s.now

/-- The steps ahead of the service port's position, in the order of R152: the held request; what another step of this
instant made due and whose position has been passed, or is the next in order; the millisecond work; the tick. -/
def State.orderAhead (s : State) : List (Prop × Instr) :=
  let passed := s.sched.passed7 = true ∨ s.sched.passed8 = true
  [(s.heldEnds, .heldRequestCompletion s.here),
   (passed ∧ s.mayStart .a, .transmitterStart s.here .a), (passed ∧ s.mayStart .b, .transmitterStart s.here .b)]
    ++ s.moveRounds.map (fun e => (s.sched.passed8 = true ∧ e.1, e.2))
    ++ [(s.pulseOver 0, .pulseEnd s.here 0), (s.pulseOver 1, .pulseEnd s.here 1), (s.pulseOver 2, .pulseEnd s.here 2),
        (s.pulseOver 3, .pulseEnd s.here 3),
        (∃ k, s.sched.lastMilli < k ∧ k * 32000 = s.now, .buttonSample s.here),
        (∃ k, s.sched.lastTick < k ∧ s.tick.origin + k * (s.tick.length.toNat * 32) = s.now, .tickStep s.here)]

/-- A sample of the receiver of line `l` falls on this instant (R82). -/
def State.samples (s : State) (l : LineId) : Prop :=
  (s.line l).state = .running ∧
    ∃ k, (s.line l).rx.index < k ∧ (s.line l).rx.origin + k * bitTime (s.line l).format.rate / 16 = s.now

/-- A receiver completion is due (R83). -/
def State.receives (s : State) (l : LineId) : Prop :=
  (s.line l).state = .running ∧ ∃ raw, (s.line l).rx.phase = .complete raw

/-- The transmitter's character of line `l` ends now (R91). -/
def State.transmits (s : State) (l : LineId) : Prop :=
  ∃ c, (s.line l).tx = some c ∧
    c.started + (1 + (if (s.line l).format.seven then 7 else 8) + (if (s.line l).format.parity = .none then 0 else 1) +
      (if (s.line l).format.twoStop then 2 else 1)) * bitTime (s.line l).format.rate ≤ s.now

/-- The steps after a frame's command, in the order of R152: the abort count of a released frame, a host transaction that
HREQ presents or the expiry of a held request, receivers, transmitters, moves, XR sampling. -/
def State.orderFromPorts (s : State) : List (Prop × Instr) :=
  [(s.svc.aborts ≠ 0, .abortedFrame s.here),
   (s.pins.hreq = true ∧ s.host.phase = .idle,
    .hostTransactionBegin s.here s.pins.hwr s.pins.hpriv s.pins.hitem s.pins.hdata),
   (∃ h, s.heldRequest = some h ∧ h.since + h.limit.toNat * 32 ≤ s.now, .waitLimitExpiry s.here),
   (s.samples .a, .receiverSample s.here .a), (s.receives .a, .receiverCompletion s.here .a none),
   (s.samples .b, .receiverSample s.here .b), (s.receives .b, .receiverCompletion s.here .b none),
   (s.transmits .a, .transmitterCompletion s.here .a), (s.mayStart .a, .transmitterStart s.here .a),
   (s.transmits .b, .transmitterCompletion s.here .b), (s.mayStart .b, .transmitterStart s.here .b)]
    ++ s.moveRounds ++ [(∃ k, s.sched.lastMicro < k ∧ k * 32 = s.now, .xrSampling s.here)]

/-! ### Activations (R46, R51, R52, R55) -/

/-- Source `i` is an enabled URGENT source in IDLE that is activated at the end of the step whose action left `u`, and
its fixed target is `f`. -/
def State.arrives (u : State) (f : TargetId) (i : SourceId) : Bool :=
  (u.src i).entry.enable && decide ((u.src i).entry.cls = .urgent) && decide ((u.src i).entry.fixed = f)
    && decide ((u.src i).state = .idle) && decide (activations u i ≠ 0)

/-- The sources that arrive at the urgent queue of `f` in one step, in ascending number (R55). -/
def State.arrivals (u : State) (f : TargetId) : List SourceId := allSources.filter (u.arrives f)

/-! ### What rules say of one record, as tables -/

/-- The state of a source that leaves service (R48): the table of completion. -/
def Source.left (x : Source) : SourceState :=
  match x.entry.trigger, x.state with
  | .edge, .active _ => .idle
  | .edge, .activePending _ => .pending
  | .level, .active _ | .level, .activePending _ => if x.entry.enable && x.input then .pending else .idle
  | _, st => st

/-- An enabled NORMAL EDGE source after one edge (R46): its table. -/
def Source.edgeTaken (x : Source) : Source :=
  let more : Byte := if x.merge = 255 then 255 else x.merge + 1
  match x.state with
  | .idle => { x with state := .pending }
  | .pending | .activePending _ => { x with merge := more }
  | .active t => { x with state := .activePending t }
  | .queued _ => x

/-- An enabled NORMAL LEVEL source that follows its input (R47): its table. -/
def Source.followed (x : Source) (input : Bool) : SourceState :=
  match x.state with
  | .idle => if input then .pending else .idle
  | .pending => if input then .pending else .idle
  | st => st

/-- The state of a source whose enable is cleared (R49, R53): their tables. -/
def SourceState.cleared : SourceState → SourceState
  | .pending => .idle
  | .activePending t => .active t
  | st => st

/-- A channel that receives an entry (R85, R112): appended with a flag for each mark and echoed if unmarked and echo is
on, or dropped with OVERRUN. -/
def Channel.taking (c : Channel) (e : RxEntry) : Channel :=
  let echoes := c.echo && !e.parity && !e.framing && !e.brk
  if Config.queueDepth ≤ c.rx.length then { c with flags := c.flags ||| 4 }
  else
    { c with
      rx := c.rx ++ [e]
      tx := if echoes && decide (c.tx.length < Config.queueDepth) then c.tx ++ [e.value] else c.tx
      flags := c.flags ||| (if e.parity then 1 else 0) ||| (if e.framing then 2 else 0) ||| (if e.brk then 8 else 0)
        ||| (if echoes && decide (Config.queueDepth ≤ c.tx.length) then 16 else 0) }

/-- A lane whose job ended with this record (R124). -/
def Lane.ended (x : Lane) (r : Record) (halt : Bool) : Lane :=
  if x.records.length < Config.laneDepth then
    if halt then { x with records := x.records ++ [r], state := .halted }
    else
      match x.queue with
      | [] => { x with records := x.records ++ [r], state := .idle }
      | j :: q => { x with records := x.records ++ [r], state := .running j 0, queue := q }
  else { x with state := .waitRecord r (if halt then .halt else .continue) }

/-- A lane after ABORT (R127, R129). -/
def Lane.aborted (x : Lane) : Lane :=
  let c : Byte := BitVec.ofNat 8 (min 255 (x.discarded.toNat + x.queue.length))
  match x.state with
  | .idle => x
  | .running j k =>
    if x.records.length < Config.laneDepth then
      { x with queue := [], discarded := c, state := .idle, records := x.records ++ [⟨j.tag, .aborted, k, j.notify⟩] }
    else { x with queue := [], discarded := c, state := .waitRecord ⟨j.tag, .aborted, k, j.notify⟩ .continue }
  | .halted => { x with queue := [], discarded := c, state := .idle }
  | .waitRecord r _ => { x with queue := [], discarded := c, state := .waitRecord r .continue }

/-- A timer after a tick step (R137, R138). -/
def Timer.ticked (x : Timer) : Timer :=
  if x.state = .running then
    if x.count + 1 = x.limit then
      { x with
        mark := true
        lost := if x.mark then (if x.lost = 255 then 255 else x.lost + 1) else x.lost
        count := if x.periodic then 0 else x.limit
        state := if x.periodic then .running else .expired }
    else { x with count := x.count + 1 }
  else x

/-- This timer loses an expiry in a tick step and escalates to target `t` (R138, R139). -/
def Timer.escalates (x : Timer) (t : TargetId) : Prop :=
  x.state = .running ∧ x.count + 1 = x.limit ∧ x.mark = true ∧ x.escalation = some t

/-- Target `t` leaves RUN (R145, R77): its restart record, its event context, the sources of its stack and its urgent
queue, its doorbell's unread flag; nothing else. -/
def State.restartBegun (u : State) (t : TargetId) (st : RunState) (cause : Cause) : State :=
  { u with
    restarts := u.restarts.set t.val
      { u.restart t with
        state := st
        count := if (u.restart t).count = 255 then 255 else (u.restart t).count + 1
        cause := cause } t.isLt
    targets := u.targets.set t.val { u.tgt t with stack := [], urgent := [], floor := 0, dispatch := 0 } t.isLt
    sources := Vector.ofFn fun i : SourceId =>
      if i ∈ (u.tgt t).urgent then { u.src i with state := .idle }
      else if i ∈ (u.tgt t).stack.map (·.1) then { u.src i with state := (u.src i).left }
      else u.src i
    svc := { u.svc with
      doorbells := u.svc.doorbells.set t.val { u.bell t with unread := false } t.isLt } }

/-- The merged count of target `t` after one more merged request (R144). -/
def State.requestMerged (u : State) (t : TargetId) : State :=
  u.setRestart t
    { u.restart t with merged := if (u.restart t).merged = 255 then 255 else (u.restart t).merged + 1 }

/-- A PULSE request (R144): the row PULSE of its table. -/
def State.pulseAsked (u : State) (t : TargetId) (cause : Cause) : State :=
  match (u.restart t).state with
  | .run => u.restartBegun t (.pulse (u.now + u.rsc.width.toNat * 32000)) cause
  | .pulse _ | .held => u.requestMerged t

/-- A HOLD request (R144): the row HOLD of its table. -/
def State.holdAsked (u : State) (t : TargetId) (cause : Cause) : State :=
  match (u.restart t).state with
  | .run => u.restartBegun t .held cause
  | .pulse _ => u.setRestart t { u.restart t with state := .held }
  | .held => u.requestMerged t

/-- The state at an instant that may still lie ahead (log 2): a step of the hub's own is taken at its due instant. -/
def State.lateTo (u : State) (instant : Nat) : State :=
  if u.now < instant then
    { u with now := instant, sched := { u.sched with passed7 := false, passed8 := false, moved := [] } }
  else u

/-- The visit of timer `n` in a tick step (R137 to R139): the timer by its table, a lost expiry's escalation before the
edge of the expiry. -/
def State.timerVisited (u : State) (n : TimerId) : State :=
  let x := u.timer n
  let expires := x.state = .running ∧ x.count + 1 = x.limit
  let asked : State :=
    match x.escalation with
    | some t => if expires ∧ x.mark = true then (u.pulseAsked t .watchdog).setSticky 6 else u
    | none => u
  let counted := asked.setTimer n x.ticked
  if expires then counted.raise ⟨16 + n.val, by omega⟩ else counted

/-- The debouncer after a sample (R148): its table. -/
def RestartUnit.sampled (x : RestartUnit) (asserted : Bool) : RestartUnit :=
  match x.phase with
  | .released => if asserted then { x with phase := .pressing, run := 1 } else { x with run := 0 }
  | .pressing =>
    if asserted then
      if x.run + 1 = 20 then { x with phase := .pressed, run := 0 } else { x with run := x.run + 1 }
    else { x with phase := .released, run := 0 }
  | .pressed => if asserted then { x with run := 0 } else { x with phase := .releasing, run := 1 }
  | .releasing =>
    if asserted then { x with phase := .pressed, run := 0 }
    else if x.run + 1 = 20 then { x with phase := .released, run := 0 } else { x with run := x.run + 1 }

/-! ### Power-on values (spec/10, the RESET_N column; spec/11, section 11.5) -/

/-- The sources whose fixed trigger is EDGE (R37). -/
def fixedEdge (i : SourceId) : Bool :=
  decide ((16 ≤ i.val ∧ i.val ≤ 19) ∨ i.val = 26 ∨ i.val = 27 ∨ i.val = 30 ∨ i.val = 31)

/-- The power-on entry of a source as a word (R40). -/
def powerOnEntryWord (i : SourceId) : Word :=
  BitVec.ofNat 32 ((if fixedEdge i then 0x104 else 0x100) + i.val * 2 ^ 24)

/-- Every block holds the values of the RESET_N column of the reset matrix (R155). -/
structure PowerOnColumn (t : State) : Prop where
  host : t.host.phase = .idle ∧ t.host.hdone = false ∧ t.host.hrefuse = false ∧ t.host.waitLimit = 0 ∧
    t.host.fault = ⟨0, 0, false, false, false, 0⟩ ∧ t.host.flowCount = 0
  service : t.svc.frame = none ∧ t.svc.aborts = 0 ∧ t.svc.posted = ⟨0, 0, 0⟩ ∧ t.svc.sticky = 0 ∧ t.svc.mask = 0xFFF ∧
    t.svc.alert = false ∧ t.svc.abortCount = 0 ∧ t.svc.snap = ⟨0, #v[0, 0, 0, 0], #v[0, 0, 0, 0]⟩
  doorbells : ∀ k, t.bell k = ⟨0, false⟩
  sources : ∀ i, entryWord (t.src i).entry = powerOnEntryWord i ∧ (t.src i).state = .idle ∧
    (t.src i).input = false ∧ (t.src i).merge = 0
  samples : t.xrSample = 0
  targets : ∀ k, t.tgt k = ⟨0, false, [], [], 0, 0, 0, 0, 0⟩
  outputs : ∀ k, t.out k = ⟨false, 0, false, true⟩
  lines : ∀ l, t.line l =
    { format := ⟨3, false, .none, false⟩, state := .stopped, rx := (t.line l).rx, tx := none
      prog := ⟨[], [], 0, false⟩, serv := ⟨[], [], 0, false⟩, rxThresh := 1, txThresh := 16, interest := false
      alarmMask := 0x1F, owner := .program, lock := false, ctl := ⟨0x1C, 0x1D, 0x1E, true⟩, denied := 0 } ∧
    (t.line l).rx.phase = .off
  lanes : ∀ n, t.lane n = ⟨.idle, [], [], 0, ⟨0, 0, 0, 0, false, false, false, false⟩⟩
  staging : ∀ a, readByte t.staging a = 0
  tick : t.tick.length = 1000
  timers : ∀ n, t.timer n = ⟨false, .stopped, 0, 1000, false, 0, false, none⟩
  restarts : ∀ k, (t.restart k).state ≠ .run ∧ (t.restart k).count = 0 ∧ (t.restart k).merged = 0 ∧
    (t.restart k).cause = .power
  unit : t.rsc = ⟨10, 1, .releasing, 0⟩
  edges : t.raised = []

/-- `t` holds the values of the CLEAR_ALL column of the reset matrix, after a clear of `x` (R156): what the clear
resets, and what it keeps. -/
structure ClearedColumn (x t : State) : Prop where
  host : t.host.waitLimit = 0 ∧ t.host.fault = ⟨0, 0, false, false, false, 0⟩ ∧ t.host.flowCount = 0
  service : t.svc.sticky = 0 ∧ t.svc.alert = false ∧ ∀ k, t.bell k = ⟨0, false⟩
  sources : ∀ i, entryWord (t.src i).entry = powerOnEntryWord i ∧ (t.src i).state = .idle ∧ (t.src i).merge = 0 ∧
    (t.src i).input = (decide (i.val < 16) && x.xrSample.getLsbD i.val)
  targets : ∀ k, t.tgt k = ⟨0, false, [], [], 0, 0, 0, 0, 0⟩
  outputs : ∀ k, t.out k = ⟨false, 0, false, decide ((x.restart k).state ≠ .run)⟩
  lines : ∀ l, t.line l =
    { format := ⟨3, false, .none, false⟩, state := .stopped, rx := (t.line l).rx, tx := none
      prog := ⟨[], [], 0, false⟩, serv := ⟨[], [], 0, false⟩, rxThresh := 1, txThresh := 16, interest := false
      alarmMask := 0x1F, owner := .program, lock := false, ctl := ⟨0x1C, 0x1D, 0x1E, true⟩, denied := 0 } ∧
    (t.line l).rx.phase = .off
  lanes : ∀ n, t.lane n = ⟨.idle, [], [], 0, ⟨0, 0, 0, 0, false, false, false, false⟩⟩
  tick : t.tick = ⟨1000, x.now⟩
  timers : ∀ n, t.timer n = ⟨false, .stopped, 0, 1000, false, 0, false, none⟩
  kept : t.restarts = x.restarts ∧ t.rsc = x.rsc ∧ t.staging = x.staging ∧ t.svc.snap = x.svc.snap ∧
    t.svc.abortCount = x.svc.abortCount ∧ t.svc.mask = x.svc.mask ∧ t.xrSample = x.xrSample ∧ t.now = x.now ∧
    t.pins = x.pins ∧ t.pending = x.pending ∧ t.coming = x.coming ∧ t.inReset = x.inReset ∧
    t.sched.lastMicro = x.sched.lastMicro ∧ t.sched.lastMilli = x.sched.lastMilli

/-- The power-on column of the directory, with the input pins that LINE_OWNER and RSC_BUTTON follow; for a consuming item
the word that a read would return, 0 for an empty queue (spec/11, section 11.5). -/
def powerOnWord (p : Pins) : Item → Word
  | .hub .ident => 0x000101B8
  | .srcEntry i => powerOnEntryWord i
  | .srcStatus _ => 0x00000700
  | .tgt _ .take | .tgt _ .takeUrgent | .tgt _ .offer => 0x0000003F
  | .tgt _ .state => 0x00000400
  | .tgt _ (.stack _) => 0x003F003F
  | .tgt _ .urgentStatus => 0x00FFFFFF
  | .line _ .format => 0x00000003
  | .line _ .thresh => 0x00001001
  | .line _ .alarmMask => 0x0000001F
  | .line _ .owner => if p.seizePermit then 0x0000000C else 0
  | .line _ .ctlchars => 0x011E1D1C
  | .tickLength => 0x000003E8
  | .timer _ .limit => 0x000003E8
  | .rsc .width => 0x0000000A
  | .rsc .buttonMap => 0x00000001
  | .rsc .button => if p.restartIn then 0x00000007 else 0x00000006
  | .rsc (.target _) => 0x0A000011
  | .alert .mask => 0x00000FFF
  | _ => 0

/-! ### Invariants -/

/-- The host bus (R1): never both HDONE and HREFUSE, and one of them exactly while a completed transaction waits for
HREQ to be released. -/
def HostInv (s : State) : Prop :=
  (s.host.hdone && s.host.hrefuse) = false ∧
    ((s.host.hdone || s.host.hrefuse) = true ↔ s.host.phase = .completed)

/-- Staging memory has its canonical form (R116). -/
def StagingInv (s : State) : Prop := Memory.wf s.staging = true

/-- A job that R120 admits: some bytes, all within staging memory. -/
def Job.admissible (j : Job) : Prop := 0 < j.length.toNat ∧ j.offset.toNat + j.length.toNat ≤ Config.stagingSize

/-- What R118 keeps true of a lane after every step. -/
structure Lane.Ok (x : Lane) : Prop where
  /-- The job queue holds 0 to 8 jobs. -/
  queueShort : x.queue.length ≤ Config.laneDepth
  /-- The record list holds 0 to 8 records. -/
  recordsShort : x.records.length ≤ Config.laneDepth
  /-- An IDLE lane has an empty job queue. -/
  idleEmpty : x.state = .idle → x.queue = []
  /-- In WAIT_RECORD the record list holds 8 records. -/
  waitFull : ∀ r o, x.state = .waitRecord r o → x.records.length = Config.laneDepth
  /-- Every queued job is one that R120 admits. -/
  queueAdmissible : ∀ j ∈ x.queue, j.admissible
  /-- So is the current job, and it has a byte left to move. -/
  currentAdmissible : ∀ j k, x.state = .running j k → j.admissible ∧ k < j.length.toNat

/-- Every lane is as R118 says. -/
def LaneInv (s : State) : Prop := ∀ n : LaneId, (s.lane n).Ok

/-- What the rules of spec/05 and spec/06 keep true of a line. -/
structure Line.Ok (x : Line) : Prop where
  /-- No queue holds more than 32 entries (R89). -/
  queuesShort : x.prog.rx.length ≤ Config.queueDepth ∧ x.prog.tx.length ≤ Config.queueDepth ∧
    x.serv.rx.length ≤ Config.queueDepth ∧ x.serv.tx.length ≤ Config.queueDepth
  /-- A STOPPED line never has a character in its transmitter (spec/05, section 5.2). -/
  stoppedIdle : x.state = .stopped → x.tx = none
  /-- A DRAINING line always has one (spec/05, section 5.2). -/
  drainingBusy : x.state = .draining → x.tx ≠ none
  /-- The receiver is off exactly when the line is not RUNNING (R82). -/
  receiverOff : x.rx.phase = .off ↔ x.state ≠ .running
  /-- Both thresholds are 1 to 32 (R93). -/
  thresholds : badThreshold x.rxThresh = false ∧ badThreshold x.txThresh = false
  /-- The three control character values are distinct (R101). -/
  distinct : x.ctl.clash = false

/-- Both lines are as spec/05 and spec/06 say. -/
def LineInv (s : State) : Prop := ∀ l : LineId, (s.line l).Ok

/-- The tick length is not 0 (R132); no limit is 0, and a RUNNING timer's count is below its limit (R133). -/
def TimerInv (s : State) : Prop :=
  s.tick.length ≠ 0 ∧
    ∀ n : TimerId, (s.timer n).limit ≠ 0 ∧ ((s.timer n).state = .running → (s.timer n).count < (s.timer n).limit)

/-- What spec/03 and spec/04 keep true of the source table and the target contexts. -/
structure EventInv (s : State) : Prop where
  /-- A service stack holds 0 to 8 entries (R58). -/
  stackShort : ∀ t, (s.tgt t).stack.length ≤ Config.stackDepth
  /-- Its levels strictly increase from bottom to top (R58). -/
  rising : ∀ t, (s.tgt t).stack.Pairwise (fun a b => a.2 < b.2)
  /-- No source stands twice in a stack (R58). -/
  stackOnce : ∀ t, ((s.tgt t).stack.map (·.1)).Nodup
  /-- A source is in the stack of t exactly when it is ACTIVE or ACTIVE_PENDING with active target t (R58). -/
  inStack : ∀ t i, i ∈ (s.tgt t).stack.map (·.1) ↔
    ((s.src i).state = .active t ∨ (s.src i).state = .activePending t)
  /-- An entry's level is its source's level, which cannot change in service (R42, R50). -/
  levels : ∀ t, ∀ e ∈ (s.tgt t).stack, (s.src e.1).entry.level = e.2
  /-- An urgent queue holds 0 to 4 sources (R58). -/
  urgentShort : ∀ t, (s.tgt t).urgent.length ≤ Config.urgentDepth
  /-- No source stands twice in an urgent queue (R58). -/
  urgentOnce : ∀ t, (s.tgt t).urgent.Nodup
  /-- A source is in the urgent queue of t exactly when it is QUEUED there (R58). -/
  inUrgent : ∀ t i, i ∈ (s.tgt t).urgent ↔ (s.src i).state = .queued t
  /-- A QUEUED source is URGENT, and in the queue of its fixed target (R58). -/
  queuedUrgent : ∀ i t, (s.src i).state = .queued t → (s.src i).entry.cls = .urgent ∧ (s.src i).entry.fixed = t
  /-- An URGENT source is IDLE or QUEUED (spec/03, section 3.5). -/
  urgentStates : ∀ i, (s.src i).entry.cls = .urgent → (s.src i).state = .idle ∨ ∃ t, (s.src i).state = .queued t
  /-- A disabled source is neither PENDING nor ACTIVE_PENDING (R49). -/
  disabledQuiet : ∀ i, (s.src i).entry.enable = false →
    (s.src i).state ≠ .pending ∧ ∀ t, (s.src i).state ≠ .activePending t
  /-- The stack and the urgent queue of a target that is not in RUN are empty (R76). -/
  restartEmpty : ∀ t, (s.restart t).state ≠ .run → (s.tgt t).stack = [] ∧ (s.tgt t).urgent = []

/-- What the end of every step leaves (R151), and nothing changes between steps. -/
structure Settled (s : State) : Prop where
  /-- Every source's input is as the state says (R38, R39). -/
  inputs : ∀ i, (s.src i).input = s.inputOf i
  /-- An enabled NORMAL LEVEL source that is not in service is PENDING exactly while its input is high (R47). -/
  levels : ∀ i, (s.src i).entry.enable = true → (s.src i).entry.cls = .normal → (s.src i).entry.trigger = .level →
    ((s.src i).state = .idle → (s.src i).input = false) ∧ ((s.src i).state = .pending → (s.src i).input = true)
  /-- The outputs of every target match its offer, its urgent queue and its restart state (R62, R143). -/
  outputs : ∀ t, s.out t = s.outputOf t
  /-- SVC_ALERT matches the flags and the mask (R31). -/
  alert : s.svc.alert = s.alertOutput
  /-- No edge is left over. -/
  noEdges : s.raised = []

end Sys2Proof.Machine
end

