-- ==== Sys2Proof/WellFormed.lean ====
section
/-! DEFINITION. Which commands are well formed: every operand's type holds exactly its range, so only two rows have
a check. -/

namespace Sys2Proof

/-- Host writes of these items are rows of the opcode table of their own. -/
def Item.hasWriteRow : Item → Bool
  | .hub .faultAck | .hub .flowCount | .hub .clearAll => true
  | .srcEntry _ | .srcStatus _ => true
  | .tgt _ .done | .tgt _ .floor | .tgt _ .urgentStatus => true
  | .line _ .start | .line _ .stop | .line _ .clear | .line _ .tx | .line _ .txWait | .line _ .perr => true
  | .line _ .release | .line _ .reclaim | .line _ .unlock => true
  | .lane _ .submit | .lane _ .command | .lane _ .discarded => true
  | .tickLength | .timer _ .command | .timer _ .status => true
  | .rsc .restart => true
  | _ => false

/-- The command codes of R21. Any other code is unknown. -/
def knownCodes : List Byte :=
  [0x00, 0x01, 0x02, 0x03, 0x10, 0x11, 0x20, 0x21, 0x30, 0x31, 0x32, 0x33, 0x40, 0x7F]

/-- A command is well formed: REGISTER_WRITE names no item whose host write has a row of its own, and BAD_COMMAND
carries an unknown code. -/
def Instr.wellFormed : Instr → Bool
  | .registerWrite _ _ num _ => !((decodeItem num).any Item.hasWriteRow)
  | .badCommand _ code _ _ => !(knownCodes.contains code)
  | _ => true

end Sys2Proof
end

