-- ==== Sys2Proof/Certificates/Slice0/Obligations.lean ====
section
/-! DEFINITION. The statements for the provers. `s.arrive m` is the state at a command's instant, with the clock moved on by
the moment's gap and the pins as the moment shows them; `s.enter m` is that state when the service port has looked at its
pins there, as a step of position 5 to 9 finds it (R152). HostRowsPresentTheirTransaction and ServiceWritesAndAborts say
what each is. `endOfStep` is the end of a step (R151). A statement of the form `exec c s = .next (endOfStep u)` gives a
command's whole effect: `u` is what its action leaves, so whatever `u` does not name is as `s.arrive m` or `s.enter m` has
it, and EndOfStepChangesOnlyWhatItMay says what the end of the step adds. -/

open Sys2Proof Sys2Proof.Machine

/-! ### Steps, queue, resets -/

/-- One step of a state with a command in front of its queue is that command on the state with the queue's rest. The queue
and its rule, first in, first out and ahead of the steps of the hub's own, are the model's choice (log 3); that a step is
the whole effect of one cause is section 10.1's. -/
def Obligations.StepRunsTheFrontCommand : Prop :=
  ∀ (c : Instr) (rest : List Instr) (s : State), s.pending = c :: rest → step s = exec c { s with pending := rest }

/-- With an empty queue the hub takes the step that is due first in the order of R152, or one REFCLK period passes and the
pins take the levels that are coming; while RESET_N is low nothing happens. Commands presented together join the queue in
that order, those of one place as they were given. No command changes the queue. The queue, time passing on an empty one
and the coming levels are the model's (log 3, log 4); in which round a lane of R121 moves is log 8's. -/
def Obligations.EmptyQueueTakesTheDueStepOrPassesTime : Prop :=
  (∀ s : State, s.pending = [] →
    (s.inReset = true → step s = .next s) ∧
    (s.inReset = false →
      (∀ c, nextEarly s = some c → step s = exec c s) ∧
      (nextEarly s = none →
        (∀ c, nextLate s.look = some c → step s = exec c s.look) ∧
        (nextLate s.look = none →
          step s = .next { s.look with
            now := s.now + 1
            pins := s.coming.headD s.pins
            coming := s.coming.tail
            sched := { s.sched with passed7 := false, passed8 := false, moved := [] }
            host := s.host.reqSeen (s.coming.headD s.pins).hreq })))) ∧
  (∀ s : State, FirstOf s.orderAhead (nextEarly s)) ∧
  (∀ s : State,
    (∀ f, s.svc.frame = some f → f.complete → nextLate s = some (commandOf s.here f.code f.arg f.word)) ∧
    ((∀ f, s.svc.frame = some f → ¬ f.complete) → FirstOf s.orderFromPorts (nextLate s))) ∧
  (∀ (s : State) (cs : List Instr), ∃ l, s.present cs = { s with pending := s.pending ++ l } ∧ l.Perm cs ∧
    l.Pairwise (fun c d => position c < position d ∨ (position c = position d ∧ placeInClass c ≤ placeInClass d)) ∧
    ∀ c, l.filter (fun d => decide (position d = position c ∧ placeInClass d = placeInClass c)) =
      cs.filter fun d => decide (position d = position c ∧ placeInClass d = placeInClass c)) ∧
  (∀ c : Instr, (c.isReset = true → position c = 1) ∧ (c.access ≠ none → position c = 5)) ∧
  (∀ (m : Moment) (t : TargetId) (code : Byte) (arg : BitVec 16) (data : Word) (l : LineId) (g : Option RawFrame),
    position (.pulseEnd m t) = 2 ∧ placeInClass (.pulseEnd m t) = t.val ∧ position (.buttonSample m) = 2 ∧
      placeInClass (.buttonSample m) = 4 ∧ position (.tickStep m) = 3 ∧ position (commandOf m code arg data) = 4 ∧
      placeInClass (commandOf m code arg data) = 0 ∧ position (.abortedFrame m) = 4 ∧
      placeInClass (.abortedFrame m) = 1 ∧ position (.waitLimitExpiry m) = 5 ∧
      position (.receiverCompletion m l g) = 6 ∧ placeInClass (.receiverCompletion m l g) = l.unit - 3 ∧
      position (.transmitterCompletion m l) = 7 ∧ placeInClass (.transmitterCompletion m l) = l.unit - 3 ∧
      position (.transmitterStart m l) = 7 ∧ placeInClass (.transmitterStart m l) = l.unit - 3 ∧
      position (.receiveMove m l) = 8 ∧ placeInClass (.receiveMove m l) = 2 * (l.unit - 3) ∧
      position (.transmitMove m l) = 8 ∧ placeInClass (.transmitMove m l) = 2 * (l.unit - 3) + 1 ∧
      position (.xrSampling m) = 9) ∧
  (∀ (c : Instr) (s t : State), exec c s = .next t → t.pending = s.pending ∧ t.coming = s.coming)

/-- When RESET_N goes low every block takes the values of the RESET_N column, whatever it held; the outputs are as R155
says; the queue of commands is kept. While it is low, every command but the two edges of RESET_N takes no step: only the
pins are as the moment shows them. That RESET_N_ASSERT while it is low gives the same values again, and that such a command
shows its pins, is the model's choice (log 7). -/
def Obligations.LowResetHoldsEveryBlockAtItsPowerOnValues : Prop :=
  (∀ (m : Moment) (s : State), ∃ t, exec (.resetNAssert m) s = .next t ∧ PowerOnColumn t ∧ t.inReset = true ∧
    (∀ l, t.txd l = true) ∧ t.svcDout = false ∧ t.pins = m.pins ∧ t.pending = s.pending) ∧
  (∀ (c : Instr) (s : State), s.inReset = true → c.isReset = false →
    exec c s = .next { s with pins := c.moment.pins })

/-- At the release of RESET_N every block holds the values of the RESET_N column, the bases take their origin, every
target is in PULSE with cause POWER ending 10 ms later, and a frame already selected must first be released (R19). That the
service port keeps the levels of SVC_SEL and SVC_CLK there as those before the next edges is the model's inference (log 20,
DEDUCED). A RESET_N that is not low cannot be released: that nothing changes then is the model's choice (log 7). -/
def Obligations.ReleasedResetBeginsThePowerOnPulses : Prop :=
  ∀ (m : Moment) (s : State),
    (s.inReset = true →
      ∃ t, exec (.resetNRelease m) s = .next t ∧ PowerOnColumn t ∧ t.inReset = false ∧ t.now = 0 ∧
        t.sched = ⟨false, false, [], 0, 0, 0⟩ ∧ t.tick.origin = 0 ∧
        (∀ k, (t.restart k).state = .pulse 320000) ∧ (t.svc.waitRelease = true ↔ m.pins.svcSel = true) ∧
        t.svc.sel = m.pins.svcSel ∧ t.svc.clk = m.pins.svcClk ∧ t.pins = m.pins ∧ t.pending = s.pending) ∧
    (s.inReset = false → exec (.resetNRelease m) s = .next s)

/-- State.reset is the hub right after the release of RESET_N, and it meets every invariant. -/
def Obligations.ResetStateMeetsEveryInvariant : Prop :=
  PowerOnColumn State.reset ∧ State.reset.inReset = false ∧ State.reset.now = 0 ∧ State.reset.pending = [] ∧
    (∀ k, (State.reset.restart k).state = .pulse 320000) ∧
    HostInv State.reset ∧ StagingInv State.reset ∧ LaneInv State.reset ∧ LineInv State.reset ∧
    TimerInv State.reset ∧ EventInv State.reset ∧ Settled State.reset

/-- Every item reads, right after the release of RESET_N, as the directory's power-on column says, whatever the pins
show. -/
def Obligations.EveryItemReadsItsPowerOnValue : Prop :=
  ∀ (p : Pins) (it : Item), ({ State.reset with pins := p } : State).itemWord it = powerOnWord p it

/-- The end of a step writes source states, inputs and merge counts, urgent queues and URGENT_LOST, the target outputs
and SVC_ALERT, and nothing else; the outputs and SVC_ALERT match the state it leaves (R55, R62, R143, R31). The input of
every source (R17, R34, R38, R39, R94, R95, R130), the outputs of a target, the twelve alert flags (R30), SVC_ALERT and the
alert summary (R20) are given bit by bit. -/
def Obligations.EndOfStepChangesOnlyWhatItMay : Prop :=
  ∀ u : State,
    endOfStep u =
      { u with
        sources := (endOfStep u).sources
        targets := (endOfStep u).targets
        outs := (endOfStep u).outs
        svc := { u.svc with alert := (endOfStep u).svc.alert }
        raised := [] } ∧
    (∀ i, ((endOfStep u).src i).entry = (u.src i).entry ∧ ((endOfStep u).src i).input = u.inputOf i) ∧
    (∀ k, (endOfStep u).tgt k =
      { u.tgt k with urgent := ((endOfStep u).tgt k).urgent, lost := ((endOfStep u).tgt k).lost }) ∧
    (∀ k, (endOfStep u).out k = (endOfStep u).outputOf k) ∧
    (endOfStep u).svc.alert = (endOfStep u).alertOutput ∧
    (∀ i : SourceId,
      (i.val < 16 → u.inputOf i = u.xrSample.getLsbD i.val) ∧
      ((16 ≤ i.val ∧ i.val ≤ 19) ∨ i.val = 26 ∨ i.val = 27 ∨ i.val = 30 ∨ i.val = 31 → u.inputOf i = false) ∧
      (∀ n : LaneId, i.val = 20 + n.val → (u.inputOf i = true ↔ ∃ r ∈ (u.lane n).records, r.notify = true)) ∧
      (∀ l : LineId, i.val = (match l with | .a => 24 | .b => 28) →
        (u.inputOf i = true ↔
          (u.line l).rxThresh.toNat ≤ (u.line l).prog.rx.length ∨
            ((u.line l).interest = true ∧ (u.line l).txThresh.toNat ≤ 32 - (u.line l).prog.tx.length))) ∧
      (∀ l : LineId, i.val = (match l with | .a => 25 | .b => 29) →
        (u.inputOf i = true ↔
          ∃ k < 5, (u.line l).prog.flags.getLsbD k = true ∧ (u.line l).alarmMask.getLsbD k = true)) ∧
      (∀ t : TargetId, i.val = 32 + t.val → u.inputOf i = (u.bell t).unread) ∧
      (i.val = 36 → (u.inputOf i = true ↔ u.host.fault.count ≠ 0)) ∧
      (i.val = 37 →
        (u.inputOf i = true ↔ ∃ n, (u.lane n).state = .halted ∨ ∃ r o, (u.lane n).state = .waitRecord r o))) ∧
    (∀ k, (u.outputOf k).irq = (u.offer k).isSome ∧ (u.outputOf k).lvl = u.offerLevel k ∧
      ((u.outputOf k).urg = true ↔ (u.tgt k).urgent ≠ [] ∧ (u.restart k).state = .run) ∧
      ((u.outputOf k).rst = true ↔ (u.restart k).state ≠ .run)) ∧
    (∀ k < 8, u.alertFlags.getLsbD k = u.svc.sticky.getLsbD k) ∧
    (∀ l : LineId,
      (u.alertFlags.getLsbD (match l with | .a => 8 | .b => 9) = true ↔ (u.line l).serv.rx ≠ []) ∧
      (u.alertFlags.getLsbD (match l with | .a => 10 | .b => 11) = true ↔ (u.line l).serv.flags ≠ 0)) ∧
    (u.alertOutput = true ↔ ∃ k < 12, u.alertFlags.getLsbD k = true ∧ u.svc.mask.getLsbD k = true) ∧
    (let f := u.alertFlags
     let b := u.alertSummary
     b.getLsbD 7 = u.svc.alert ∧ b.getLsbD 6 = (f.getLsbD 10 || f.getLsbD 11) ∧
      b.getLsbD 5 = (f.getLsbD 8 || f.getLsbD 9) ∧ b.getLsbD 4 = f.getLsbD 7 ∧ b.getLsbD 3 = f.getLsbD 6 ∧
      b.getLsbD 2 = (f.getLsbD 4 || f.getLsbD 5) ∧ b.getLsbD 1 = (f.getLsbD 2 || f.getLsbD 3) ∧
      b.getLsbD 0 = (f.getLsbD 0 || f.getLsbD 1))

/-- A step whose action changes nothing still takes its end of step, and that end changes nothing either (R151). -/
def Obligations.EndOfAnUnchangedStepChangesNothing : Prop :=
  ∀ s : State, Settled s → endOfStep s = s

/-! ### Items -/

/-- An item number names an item exactly when it is that item's number in the directory (R159): no number names two
items and no item has two numbers. -/
def Obligations.ItemNumbersNameExactlyTheirItems : Prop :=
  ∀ (n : ItemNumber) (it : Item), decodeItem n = some it ↔ it.number = n

/-- The fields of the settings words, both ways, bit by bit: what a written word carries and what the item reads as, the
bits of no field as zero: SRC_ENTRY (section 3.2), LINE_FORMAT (R79), LINE_CTLCHARS (R101), TSQ_JOB_PLACE and TSQ_JOB_MODE
(R119), TTM_CONFIG (R134). So writing back the word that a read returns gives the same settings. -/
def Obligations.SettingsWordsRoundTrip : Prop :=
  (∀ w : Word,
    (let e := entryOfWord w
     e.enable = w.getLsbD 0 ∧ (e.cls = .urgent ↔ w.getLsbD 1 = true) ∧ (e.trigger = .edge ↔ w.getLsbD 2 = true) ∧
      e.spreadMode = w.getLsbD 3 ∧ e.fixed.val = (field w 4 2).toNat ∧
      (∀ t : TargetId, inSet e.spread t = w.getLsbD (8 + t.val)) ∧ e.level = field w 16 5 ∧ e.tag = field w 24 8) ∧
    (let f := formatOfWord w
     f.rate = field w 0 3 ∧ f.seven = w.getLsbD 4 ∧ (field w 8 2 = 0 → f.parity = .none) ∧
      (field w 8 2 = 1 → f.parity = .even) ∧ (field w 8 2 = 2 → f.parity = .odd) ∧ f.twoStop = w.getLsbD 12) ∧
    (let c := ctlOfWord w
     c.seize = field w 0 8 ∧ c.yield = field w 8 8 ∧ c.attention = field w 16 8 ∧ c.recognition = w.getLsbD 24)) ∧
  (∀ s : State,
    (∀ i : SourceId,
      let w := s.itemWord (.srcEntry i)
      let e := (s.src i).entry
      w = entryWord e ∧ w.getLsbD 0 = e.enable ∧ (w.getLsbD 1 = true ↔ e.cls = .urgent) ∧
        (w.getLsbD 2 = true ↔ e.trigger = .edge) ∧ w.getLsbD 3 = e.spreadMode ∧ (field w 4 2).toNat = e.fixed.val ∧
        field w 6 2 = 0 ∧ (∀ t : TargetId, w.getLsbD (8 + t.val) = inSet e.spread t) ∧ field w 12 4 = 0 ∧
        field w 16 5 = e.level ∧ field w 21 3 = 0 ∧ field w 24 8 = e.tag) ∧
    (∀ l : LineId,
      (let w := s.itemWord (.line l .format)
       let f := (s.line l).format
       w = formatWord f ∧ field w 0 3 = f.rate ∧ w.getLsbD 3 = false ∧ w.getLsbD 4 = f.seven ∧ field w 5 3 = 0 ∧
        (field w 8 2).toNat = (match f.parity with | .none => 0 | .even => 1 | .odd => 2) ∧ field w 10 2 = 0 ∧
        w.getLsbD 12 = f.twoStop ∧ field w 13 19 = 0) ∧
      (let w := s.itemWord (.line l .ctlchars)
       let c := (s.line l).ctl
       w = ctlWord c ∧ field w 0 8 = c.seize ∧ field w 8 8 = c.yield ∧ field w 16 8 = c.attention ∧
        w.getLsbD 24 = c.recognition ∧ field w 25 7 = 0)) ∧
    (∀ n : LaneId,
      let a := (s.lane n).asm
      (let w := s.itemWord (.lane n .jobPlace)
       w = placeWord a ∧ field w 0 12 = a.offset ∧ field w 12 4 = 0 ∧ field w 16 13 = a.length ∧ field w 29 3 = 0) ∧
      (let w := s.itemWord (.lane n .jobMode)
       w = modeWord a ∧ field w 0 8 = a.tag ∧ field w 8 8 = a.stopValue ∧ w.getLsbD 16 = a.stopPresent ∧
        w.getLsbD 17 = a.notify ∧ w.getLsbD 18 = a.endOnError ∧ w.getLsbD 19 = a.haltOnError ∧ field w 20 12 = 0)) ∧
    (∀ n : TimerId,
      let w := s.itemWord (.timer n .config)
      let y := s.timer n
      w = configWord y ∧ w.getLsbD 0 = y.periodic ∧ w.getLsbD 1 = y.guard ∧ field w 2 2 = 0 ∧
        w.getLsbD 4 = y.escalation.isSome ∧
        (field w 5 2).toNat = (match y.escalation with | some t => t.val | none => 0) ∧ field w 7 25 = 0)) ∧
  (∀ e : Entry, entryOfWord (entryWord e) = e) ∧
  (∀ f : Format, formatOfWord (formatWord f) = f) ∧
  (∀ c : CtlChars, ctlOfWord (ctlWord c) = c) ∧
  (∀ a : Assembly, (a.withPlace (placeWord a)).withMode (modeWord a) = a) ∧
  (∀ x : Timer, x.configure (configWord x) = x)

/-- The fields of the dispatch word, and the dispatch address modulo 2^32 (R65); and the fields of every status item's read
word in every state whose counts are in the ranges of their fields: HUB_FAULT (section 1.5), SRC_STATUS (R44), TGT_OFFER,
TGT_STATE, TGT_STACKk, TGT_URGENT_STATUS (R70 to R72), LINE_STATUS (R89), LINE_OWNER (R99), TSQ_LANE_STATUS, TSQ_CURRENT
(section 7.2), TTM_STATUS (R140), RSC_TARGETn, RSC_BUTTON (R149), SVC_ALERT_FLAGS and SVC_DOORBELL_STATUS; and the read
word of every item that holds one value: HUB_WAIT_LIMIT, HUB_FLOW_COUNT, TGT_FLOOR, TGT_VBASE, TGT_VSTRIDE, TGT_DISPATCH,
TGT_TAKE_COUNT, LINE_CONTROL (R81), LINE_THRESH, LINE_PERR, LINE_SERR, LINE_ALARM_MASK, LINE_PECHO, LINE_SECHO,
TSQ_DISCARDED, TTM_TICK, TTM_LIMIT, TTM_COUNT, RSC_WIDTH, RSC_BUTTON_MAP, SVC_ALERT_MASK, SVP_ABORT_COUNT, the snapshot
record. A write-only item reads as zero (R5). -/
def Obligations.DispatchWordAndAddressFields : Prop :=
  (∀ (i : SourceId) (level : BitVec 5) (depth : Nat) (tag : Byte), depth ≤ 8 →
    let w := dispatchWord i level depth tag
    (field w 0 6).toNat = i.val ∧ field w 6 2 = 0 ∧ field w 8 5 = level ∧ field w 13 3 = 0 ∧
      (field w 16 4).toNat = depth ∧ field w 20 4 = 0 ∧ field w 24 8 = tag) ∧
  (∀ (base : BitVec 20) (code : BitVec 3) (tag : Byte),
    (dispatchAddress base code tag).toNat =
      (base.toNat * 4096 + tag.toNat * (16 * 2 ^ code.toNat)) % 2 ^ 32) ∧
  (∀ s : State,
    (let w := s.itemWord (.hub .fault)
     field w 0 16 = s.host.fault.item ∧ field w 16 4 = s.host.fault.reason ∧ w.getLsbD 20 = s.host.fault.write ∧
      w.getLsbD 21 = s.host.fault.priv ∧ w.getLsbD 22 = s.host.fault.overflow ∧ w.getLsbD 23 = false ∧
      field w 24 8 = s.host.fault.count) ∧
    (∀ i : SourceId,
      let w := s.itemWord (.srcStatus i)
      (field w 0 3).toNat =
          (match (s.src i).state with
            | .idle => 0 | .pending => 1 | .active _ => 2 | .activePending _ => 3 | .queued _ => 4) ∧
        w.getLsbD 3 = false ∧ w.getLsbD 4 = (s.src i).input ∧ field w 5 3 = 0 ∧
        (field w 8 3).toNat =
          (match (s.src i).state with
            | .idle | .pending => 7 | .active t | .activePending t | .queued t => t.val) ∧
        field w 11 5 = 0 ∧ field w 16 8 = (s.src i).merge ∧ field w 24 8 = 0) ∧
    (∀ t : TargetId, (s.tgt t).stack.length ≤ 8 → (s.tgt t).urgent.length ≤ 4 →
      (let w := s.itemWord (.tgt t .offer)
       (∀ i, s.candidate t = some i → (field w 0 6).toNat = i.val ∧ field w 8 5 = (s.src i).entry.level) ∧
        (s.candidate t = none → field w 0 6 = 63 ∧ field w 8 5 = 0) ∧ field w 6 2 = 0 ∧ field w 13 3 = 0 ∧
        w.getLsbD 16 = (s.offer t).isSome ∧ field w 17 15 = 0) ∧
      (let w := s.itemWord (.tgt t .state)
       field w 0 5 = (s.tgt t).cpl ∧ (field w 5 4).toNat = (s.tgt t).stack.length ∧ w.getLsbD 9 = (s.tgt t).hold ∧
        (field w 10 2).toNat = (match (s.restart t).state with | .run => 0 | .pulse _ => 1 | .held => 2) ∧
        (field w 12 3).toNat = (s.tgt t).urgent.length ∧ w.getLsbD 15 = false ∧
        w.getLsbD 16 = (s.offer t).isSome ∧ w.getLsbD 17 = (s.outputOf t).urg ∧ field w 18 14 = 0) ∧
      (∀ (k : Fin 4) (h : Fin 2),
        let w := s.itemWord (.tgt t (.stack k))
        (∀ e, (s.tgt t).stack[2 * k.val + h.val]? = some e →
          (field w (16 * h.val) 6).toNat = e.1.val ∧ field w (16 * h.val + 8) 5 = e.2) ∧
        ((s.tgt t).stack[2 * k.val + h.val]? = none →
          field w (16 * h.val) 6 = 63 ∧ field w (16 * h.val + 8) 5 = 0) ∧
        field w (16 * h.val + 6) 2 = 0 ∧ field w (16 * h.val + 13) 3 = 0) ∧
      (let w := s.itemWord (.tgt t .urgentStatus)
       (∀ k : Fin 4,
          (∀ i, (s.tgt t).urgent[k.val]? = some i → (field w (6 * k.val) 6).toNat = i.val) ∧
          ((s.tgt t).urgent[k.val]? = none → field w (6 * k.val) 6 = 63)) ∧
        field w 24 8 = (s.tgt t).lost)) ∧
    (∀ l : LineId, (s.line l).Ok →
      let y := s.line l
      (let w := s.itemWord (.line l .status)
       (field w 0 2).toNat = (match y.state with | .stopped => 0 | .running => 1 | .draining => 2) ∧
        w.getLsbD 2 = y.tx.isSome ∧ w.getLsbD 3 = false ∧ (field w 4 6).toNat = y.prog.rx.length ∧
        (field w 10 6).toNat = y.prog.tx.length ∧ (field w 16 6).toNat = y.serv.rx.length ∧
        (field w 22 6).toNat = y.serv.tx.length ∧ field w 28 4 = 0) ∧
      (let w := s.itemWord (.line l .owner)
       (w.getLsbD 0 = true ↔ y.owner = .service) ∧ w.getLsbD 1 = y.lock ∧ w.getLsbD 2 = s.pins.seizePermit ∧
        w.getLsbD 3 = (s.pins.seizePermit && !y.lock) ∧ field w 4 4 = 0 ∧ field w 8 8 = y.denied ∧
        field w 16 16 = 0)) ∧
    (∀ n : LaneId, (s.lane n).Ok →
      let y := s.lane n
      (let w := s.itemWord (.lane n .laneStatus)
       (field w 0 2).toNat =
          (match y.state with | .idle => 0 | .running _ _ => 1 | .halted => 2 | .waitRecord _ _ => 3) ∧
        field w 2 2 = 0 ∧ (field w 4 4).toNat = y.queue.length ∧ (field w 8 4).toNat = y.records.length ∧
        (w.getLsbD 12 = true ↔ ∃ r o, y.state = .waitRecord r o) ∧
        (w.getLsbD 13 = true ↔ ∃ j k, y.state = .running j k) ∧
        (w.getLsbD 14 = true ↔ ∃ r, y.state = .waitRecord r .halt) ∧ w.getLsbD 15 = false ∧
        field w 16 8 = y.discarded ∧ field w 24 8 = 0) ∧
      (let w := s.itemWord (.lane n .current)
       (∀ j k, y.state = .running j k →
          field w 0 8 = j.tag ∧ field w 8 8 = 0 ∧ (field w 16 13).toNat = k ∧ field w 29 2 = 0 ∧
            w.getLsbD 31 = true) ∧
        ((∀ j k, y.state ≠ .running j k) → w = 0))) ∧
    (∀ n : TimerId,
      let w := s.itemWord (.timer n .status)
      (field w 0 2).toNat = (match (s.timer n).state with | .stopped => 0 | .running => 1 | .expired => 2) ∧
        field w 2 2 = 0 ∧ w.getLsbD 4 = (s.timer n).mark ∧ field w 5 3 = 0 ∧ field w 8 8 = (s.timer n).lost ∧
        field w 16 16 = 0) ∧
    (∀ t : TargetId, (∀ ends, (s.restart t).state = .pulse ends → ends ≤ s.now + 255 * 32000) →
      let w := s.itemWord (.rsc (.target t))
      (field w 0 2).toNat = (match (s.restart t).state with | .run => 0 | .pulse _ => 1 | .held => 2) ∧
        field w 2 2 = 0 ∧
        (field w 4 3).toNat =
          (match (s.restart t).cause with
            | .power => 1 | .service => 2 | .host => 3 | .watchdog => 4 | .button => 5) ∧
        w.getLsbD 7 = false ∧ field w 8 8 = (s.restart t).count ∧ field w 16 8 = (s.restart t).merged ∧
        (field w 24 8).toNat =
          (match (s.restart t).state with | .pulse ends => (ends - s.now + 31999) / 32000 | _ => 0)) ∧
    (s.rsc.run < 256 →
      let w := s.itemWord (.rsc .button)
      w.getLsbD 0 = s.pins.restartIn ∧
        (field w 1 2).toNat =
          (match s.rsc.phase with | .released => 0 | .pressing => 1 | .pressed => 2 | .releasing => 3) ∧
        field w 3 5 = 0 ∧ (field w 8 8).toNat = s.rsc.run ∧ field w 16 16 = 0) ∧
    field (s.itemWord (.alert .flags)) 0 12 = s.alertFlags ∧ field (s.itemWord (.alert .flags)) 12 20 = 0 ∧
    (∀ t : TargetId, (s.itemWord (.alert .doorbellStatus)).getLsbD t.val = (s.bell t).unread) ∧
    field (s.itemWord (.alert .doorbellStatus)) 4 28 = 0) ∧
  (∀ s : State,
    (let w := s.itemWord (.hub .waitLimit)
     field w 0 8 = s.host.waitLimit ∧ field w 8 24 = 0) ∧
    (let w := s.itemWord (.hub .flowCount)
     field w 0 16 = s.host.flowCount ∧ field w 16 16 = 0) ∧
    (∀ t : TargetId,
      (let w := s.itemWord (.tgt t .floor)
       field w 0 5 = (s.tgt t).floor ∧ field w 5 27 = 0) ∧
      (let w := s.itemWord (.tgt t .vbase)
       field w 0 12 = 0 ∧ field w 12 20 = (s.tgt t).vbase) ∧
      (let w := s.itemWord (.tgt t .vstride)
       field w 0 3 = (s.tgt t).vstride ∧ field w 3 29 = 0) ∧
      s.itemWord (.tgt t .dispatch) = (s.tgt t).dispatch ∧ s.itemWord (.tgt t .takeCount) = (s.tgt t).takes) ∧
    (∀ l : LineId,
      let y := s.line l
      (let w := s.itemWord (.line l .control)
       (field w 0 2).toNat = (match y.state with | .stopped => 0 | .running => 1 | .draining => 2) ∧
        field w 2 30 = 0) ∧
      (let w := s.itemWord (.line l .thresh)
       field w 0 6 = y.rxThresh ∧ field w 6 2 = 0 ∧ field w 8 6 = y.txThresh ∧ field w 14 2 = 0 ∧
        w.getLsbD 16 = y.interest ∧ field w 17 15 = 0) ∧
      (let w := s.itemWord (.line l .perr)
       field w 0 5 = y.prog.flags ∧ field w 5 27 = 0) ∧
      (let w := s.itemWord (.line l .serr)
       field w 0 5 = y.serv.flags ∧ field w 5 27 = 0) ∧
      (let w := s.itemWord (.line l .alarmMask)
       field w 0 5 = y.alarmMask ∧ field w 5 27 = 0) ∧
      (let w := s.itemWord (.line l .pecho)
       w.getLsbD 0 = y.prog.echo ∧ field w 1 31 = 0) ∧
      (let w := s.itemWord (.line l .secho)
       w.getLsbD 0 = y.serv.echo ∧ field w 1 31 = 0)) ∧
    (∀ n : LaneId,
      let w := s.itemWord (.lane n .discarded)
      field w 0 8 = (s.lane n).discarded ∧ field w 8 24 = 0) ∧
    (let w := s.itemWord .tickLength
     field w 0 16 = s.tick.length ∧ field w 16 16 = 0) ∧
    (∀ n : TimerId,
      (let w := s.itemWord (.timer n .limit)
       field w 0 24 = (s.timer n).limit ∧ field w 24 8 = 0) ∧
      (let w := s.itemWord (.timer n .count)
       field w 0 24 = (s.timer n).count ∧ field w 24 8 = 0)) ∧
    (let w := s.itemWord (.rsc .width)
     field w 0 8 = s.rsc.width ∧ field w 8 24 = 0) ∧
    (let w := s.itemWord (.rsc .buttonMap)
     field w 0 4 = s.rsc.buttonMap ∧ field w 4 28 = 0) ∧
    (let w := s.itemWord (.alert .mask)
     field w 0 12 = s.svc.mask ∧ field w 12 20 = 0) ∧
    (let w := s.itemWord (.alert .abortCount)
     field w 0 8 = s.svc.abortCount ∧ field w 8 24 = 0) ∧
    (let w := s.itemWord (.snap 0)
     field w 0 16 = s.svc.snap.seq ∧ field w 16 16 = 0) ∧
    (∀ (k : Fin 9) (j : Fin 4),
      (k.val = 1 + j.val → s.itemWord (.snap k) = s.svc.snap.src[j.val]) ∧
      (k.val = 5 + j.val → s.itemWord (.snap k) = s.svc.snap.tgt[j.val])) ∧
    (∀ it, hostAccess it = .write → s.itemWord it = 0))

/-! ### Host transaction port -/

/-- Each row of a host item is the host transaction to that item's number: reading it presents the read, writing it the
write. While a request is held no other host transaction begins (R1, R12). What a step finds at its instant: the clock and
the pins of its moment, a completed transaction over when HREQ is seen released, with HDONE and HREFUSE gone (R1), the
frame parser as ServiceWritesAndAborts says, and nothing else changed. The moment is the model's (log 1), and so is what a
host row stands for while a transaction is held or waits for its release (log 6, DEDUCED). -/
def Obligations.HostRowsPresentTheirTransaction : Prop :=
  (∀ (m : Moment) (s : State),
    s.arrive m =
      { s with
        now := s.now + m.gap
        pins := m.pins
        sched :=
          if m.gap = 0 then s.sched else { s.sched with passed7 := false, passed8 := false, moved := [] }
        host := s.host.reqSeen m.pins.hreq
        svc := if m.gap = 0 then s.svc else s.look.svc
        raised := [] } ∧
    s.enter m = (s.arrive m).look ∧
    s.look =
      { s with svc := { s.svc with
          frame := s.look.svc.frame
          waitRelease := s.look.svc.waitRelease
          sel := s.look.svc.sel
          clk := s.look.svc.clk
          aborts := s.look.svc.aborts } }) ∧
  ∀ (c : Instr) (write priv : Bool) (num : ItemNumber) (data : Word) (s : State),
    c.access = some (write, priv, num, data) →
      exec c s = exec (.hostTransactionBegin c.moment write priv num data) s ∧
      (s.inReset = false → s.heldRequest ≠ none → exec c s = .next (endOfStep (s.enter c.moment)))

/-- Visibility and direction (R5): NO_ITEM for a number without an item and for an item whose host access is none;
READ_ONLY for a write to an R item whatever HPRIV and the data word; a read of a W item is done with zero and no effect;
a read of an R, RW or RW-P item that is no consuming read returns its value and changes nothing; HPRIV has no effect on
any read but for the level recorded with a refusal (R13). -/
def Obligations.HostVisibilityAndDirection : Prop :=
  ∀ (m : Moment) (s : State) (num : ItemNumber) (priv : Bool) (data : Word), s.hostFree →
    (∀ write, (∀ it, decodeItem num = some it → hostAccess it = .none) →
      exec (.hostTransactionBegin m write priv num data) s =
        .next (endOfStep ((s.enter m).hostRefused num .noItem write priv))) ∧
    (∀ it, decodeItem num = some it → hostAccess it = .read →
      exec (.hostTransactionBegin m true priv num data) s =
        .next (endOfStep ((s.enter m).hostRefused num .readOnly true priv))) ∧
    (∀ it, decodeItem num = some it → hostAccess it = .write →
      exec (.hostTransactionBegin m false priv num data) s = .next (endOfStep ((s.enter m).hostDone 0))) ∧
    (∀ it, decodeItem num = some it → hostAccess it = .read ∨ hostAccess it = .readWrite →
      (∀ t, it ≠ .tgt t .take ∧ it ≠ .tgt t .takeUrgent ∧ it ≠ .tgt t .doorbell) →
      (∀ l, it ≠ .line l .rx ∧ it ≠ .line l .rxWait) → (∀ n, it ≠ .lane n .record) →
      exec (.hostTransactionBegin m false priv num data) s =
        .next (endOfStep ((s.enter m).hostDone ((s.enter m).itemWord it)))) ∧
    (∀ it, decodeItem num = some it → (s.host.fault.count ≠ 0 ∨ hostAccess it ≠ .none) →
      exec (.hostTransactionBegin m false priv num data) s =
        exec (.hostTransactionBegin m false (!priv) num data) s)

/-- A programming refusal that finds the fault record empty fills it with the transaction; held requests never enter
it (R13). -/
def Obligations.FirstProgrammingRefusalFillsTheFaultRecord : Prop :=
  (∀ (m : Moment) (s t : State) (write priv : Bool) (num : ItemNumber) (data : Word), s.hostFree →
    exec (.hostTransactionBegin m write priv num data) s = .next t → t.host.hrefuse = true →
    1 ≤ t.host.hdata.toNat → t.host.hdata.toNat ≤ 6 → s.host.fault.count = 0 →
      t.host.fault = ⟨num, BitVec.ofNat 4 t.host.hdata.toNat, write, priv, false, 1⟩) ∧
  (∀ (m : Moment) (s t : State),
    exec (.heldRequestCompletion m) s = .next t ∨ exec (.waitLimitExpiry m) s = .next t →
      t.host.fault = s.host.fault)

/-- A programming refusal that finds the fault record occupied keeps its four fields, sets overflow and counts up to
255, a refused write to HUB_FAULT_ACK among them (R14). -/
def Obligations.FurtherProgrammingRefusalsOnlyCount : Prop :=
  (∀ (m : Moment) (s t : State) (write priv : Bool) (num : ItemNumber) (data : Word), s.hostFree →
    exec (.hostTransactionBegin m write priv num data) s = .next t → t.host.hrefuse = true →
    1 ≤ t.host.hdata.toNat → t.host.hdata.toNat ≤ 6 → s.host.fault.count ≠ 0 →
      t.host.fault =
        { s.host.fault with
          overflow := true
          count := if s.host.fault.count = 255 then 255 else s.host.fault.count + 1 }) ∧
  (∀ (m : Moment) (s : State) (data : Word), s.hostFree → m.pins.hreq = true →
    ∃ t, exec (.hubFaultAck m false data) s = .next t ∧ t.host.hrefuse = true ∧ t.host.hdata = 3)

/-- A refused host transaction changes the fault record or the flow count, and nothing else; its reason has one of the
host's codes (R4). -/
def Obligations.RefusedTransactionChangesOnlyTheReporting : Prop :=
  ∀ (m : Moment) (s t : State) (write priv : Bool) (num : ItemNumber) (data : Word), s.hostFree →
    exec (.hostTransactionBegin m write priv num data) s = .next t → t.host.hrefuse = true →
      ∃ r : Reason, t = endOfStep ((s.enter m).hostRefused num r write priv) ∧
        ((r.isProgramming = true ∧ 1 ≤ r.code.toNat ∧ r.code.toNat ≤ 6) ∨
          (r.isProgramming = false ∧ 9 ≤ r.code.toNat ∧ r.code.toNat ≤ 14))

/-- The order of checks of a host write: existence, direction, privilege, value; the first that fails decides (R160). -/
def Obligations.HostWriteChecksInOrder : Prop :=
  ∀ (m : Moment) (s : State) (num : ItemNumber) (it : Item) (priv : Bool) (data : Word), s.hostFree →
    decodeItem num = some it →
    let x := s.enter m
    (hostAccess it = .none →
      exec (.hostTransactionBegin m true priv num data) s = .next (endOfStep (x.hostRefused num .noItem true priv))) ∧
    (hostAccess it = .read →
      exec (.hostTransactionBegin m true priv num data) s =
        .next (endOfStep (x.hostRefused num .readOnly true priv))) ∧
    (hostAccess it = .readWrite ∨ hostAccess it = .write →
      (s.needsPriv it data = true → priv = false →
        exec (.hostTransactionBegin m true priv num data) s =
          .next (endOfStep (x.hostRefused num .protection true priv))) ∧
      (s.needsPriv it data = false ∨ priv = true → s.badValue it data = true →
        exec (.hostTransactionBegin m true priv num data) s =
          .next (endOfStep (x.hostRefused num .badValue true priv))) ∧
      (s.needsPriv it data = false ∨ priv = true → s.badValue it data = false → (∀ l, it ≠ .line l .txWait) →
        ∀ r, s.writeRefusal it data = some r →
          exec (.hostTransactionBegin m true priv num data) s =
            .next (endOfStep (x.hostRefused num r true priv))))

/-- The waiting items (R8): LANE_BUSY at once; done at once with the twin's effect; the ending conditions of R9; the
twin's reason at limit 0; otherwise the transaction is held with the limit as it stands, and no completion is driven. -/
def Obligations.WaitingItemsCompleteOrAreHeld : Prop :=
  ∀ (m : Moment) (s : State) (l : LineId) (priv : Bool) (data : Word), s.hostFree →
    let x := s.enter m
    let y := s.line l
    let rxNum : ItemNumber := BitVec.ofNat 16 (256 * l.unit + 7)
    let txNum : ItemNumber := BitVec.ofNat 16 (256 * l.unit + 9)
    ((s.lane (rxLane l)).state ≠ .idle →
      exec (.lineRxWait m priv l) s = .next (endOfStep (x.hostRefused rxNum .laneBusy false priv))) ∧
    ((s.lane (rxLane l)).state = .idle →
      (∀ e rest, y.prog.rx = e :: rest →
        exec (.lineRxWait m priv l) s =
          .next (endOfStep ((x.setLine l { y with prog := { y.prog with rx := rest } }).hostDone
            (rxWord e rest.length)))) ∧
      (y.prog.rx = [] →
        (y.owner ≠ .program ∨ y.state ≠ .running ∨ s.host.waitLimit = 0 →
          exec (.lineRxWait m priv l) s = .next (endOfStep (x.hostRefused rxNum .empty false priv))) ∧
        (y.owner = .program → y.state = .running → s.host.waitLimit ≠ 0 →
          exec (.lineRxWait m priv l) s =
            .next (endOfStep { x with host := { x.host with
              phase := .held ⟨l, false, 0, x.now, s.host.waitLimit⟩, hdone := false, hrefuse := false } })))) ∧
    ((s.lane (txLane l)).state ≠ .idle →
      exec (.lineTxWait m priv l data) s = .next (endOfStep (x.hostRefused txNum .laneBusy true priv))) ∧
    ((s.lane (txLane l)).state = .idle →
      (y.prog.tx.length < 32 →
        exec (.lineTxWait m priv l data) s =
          .next (endOfStep ((x.setLine l
            { y with prog := { y.prog with tx := y.prog.tx ++ [field data 0 8] } }).hostDone 0))) ∧
      (32 ≤ y.prog.tx.length →
        (y.owner ≠ .program ∨ y.state ≠ .running ∨ s.host.waitLimit = 0 →
          exec (.lineTxWait m priv l data) s = .next (endOfStep (x.hostRefused txNum .full true priv))) ∧
        (y.owner = .program → y.state = .running → s.host.waitLimit ≠ 0 →
          exec (.lineTxWait m priv l data) s =
            .next (endOfStep { x with host := { x.host with
              phase := .held ⟨l, true, data, x.now, s.host.waitLimit⟩, hdone := false, hrefuse := false } }))))

/-- A held request at its re-examination and at the expiry of its limit (R9, R10, R11): ended LANE_BUSY, ended EMPTY or
FULL by a loss of the line, completed with its twin's effect, ended EMPTY or FULL by its limit, or still held. That
HELD_REQUEST_COMPLETION and WAIT_LIMIT_EXPIRY share R10's three evaluations in this way is log 14's; that an expiry moves
the clock to its deadline is log 2's. -/
def Obligations.HeldRequestIsReexamined : Prop :=
  ∀ (m : Moment) (s : State) (h : Held), s.inReset = false → s.heldRequest = some h →
    let x := s.arrive m
    let z := s.enter m
    let y := s.line h.line
    let deadline := h.since + h.limit.toNat * 32
    let late : State := if z.now < deadline then { z with now := deadline, sched := z.sched.newInstant } else z
    let lane := if h.write then txLane h.line else rxLane h.line
    let lost := y.owner ≠ .program ∨ y.state ≠ .running
    ((s.lane lane).state ≠ .idle →
      exec (.heldRequestCompletion m) s = .next (endOfStep (x.heldRefused .laneBusy)) ∧
      exec (.waitLimitExpiry m) s = .next (endOfStep (late.heldRefused .laneBusy))) ∧
    ((s.lane lane).state = .idle → h.write = false →
      (∀ e rest, y.prog.rx = e :: rest →
        exec (.heldRequestCompletion m) s =
          .next (endOfStep ((x.setLine h.line { y with prog := { y.prog with rx := rest } }).hostDone
            (rxWord e rest.length))) ∧
        exec (.waitLimitExpiry m) s =
          .next (endOfStep ((late.setLine h.line { y with prog := { y.prog with rx := rest } }).hostDone
            (rxWord e rest.length)))) ∧
      (y.prog.rx = [] →
        exec (.waitLimitExpiry m) s = .next (endOfStep (late.heldRefused .empty)) ∧
        (lost ∨ deadline ≤ x.now →
          exec (.heldRequestCompletion m) s = .next (endOfStep (x.heldRefused .empty))) ∧
        (¬ lost → x.now < deadline → exec (.heldRequestCompletion m) s = .next (endOfStep x)))) ∧
    ((s.lane lane).state = .idle → h.write = true →
      (¬ lost → y.prog.tx.length < 32 →
        exec (.heldRequestCompletion m) s =
          .next (endOfStep ((x.setLine h.line
            { y with prog := { y.prog with tx := y.prog.tx ++ [field h.data 0 8] } }).hostDone 0)) ∧
        exec (.waitLimitExpiry m) s =
          .next (endOfStep ((late.setLine h.line
            { y with prog := { y.prog with tx := y.prog.tx ++ [field h.data 0 8] } }).hostDone 0))) ∧
      (lost ∨ 32 ≤ y.prog.tx.length →
        exec (.waitLimitExpiry m) s = .next (endOfStep (late.heldRefused .full)) ∧
        (lost ∨ deadline ≤ x.now →
          exec (.heldRequestCompletion m) s = .next (endOfStep (x.heldRefused .full))) ∧
        (¬ lost → x.now < deadline → exec (.heldRequestCompletion m) s = .next (endOfStep x))))

/-- HUB_FAULT_ACK empties the fault record, HUB_FLOW_COUNT the flow count, and a write of 0 to 255 to HUB_WAIT_LIMIT sets
it, each only with HPRIV; a larger limit is BAD_VALUE; the data word of the first two is ignored (R11, R15, R16). -/
def Obligations.HubControlWrites : Prop :=
  ∀ (m : Moment) (s : State) (data : Word), s.hostFree →
    let x := s.enter m
    exec (.hubFaultAck m true data) s =
      .next (endOfStep (({ x with host := { x.host with fault := ⟨0, 0, false, false, false, 0⟩ } } : State).hostDone 0)) ∧
    exec (.hubFaultAck m false data) s = .next (endOfStep (x.hostRefused 0x0003 .protection true false)) ∧
    exec (.hubFlowCount m true data) s =
      .next (endOfStep (({ x with host := { x.host with flowCount := 0 } } : State).hostDone 0)) ∧
    exec (.hubFlowCount m false data) s = .next (endOfStep (x.hostRefused 0x0004 .protection true false)) ∧
    (data.toNat ≤ 255 →
      exec (.registerWrite m true 0x0001 data) s =
        .next (endOfStep (({ x with host := { x.host with waitLimit := data.setWidth 8 } } : State).hostDone 0))) ∧
    (255 < data.toNat →
      exec (.registerWrite m true 0x0001 data) s = .next (endOfStep (x.hostRefused 0x0001 .badValue true true))) ∧
    exec (.registerWrite m false 0x0001 data) s = .next (endOfStep (x.hostRefused 0x0001 .protection true false))

/-- HUB_ID reads as 0x000101B8 in every state from either port without effect, and a write from either port is refused
READ_ONLY, whatever HPRIV carries (R164). -/
def Obligations.HubIdIdentifiesThePart : Prop :=
  ∀ (m : Moment) (s : State) (priv : Bool) (data : Word),
    let a := s.arrive m
    (s.hostFree →
      exec (.hostTransactionBegin m false priv 0x0000 data) s =
        .next (endOfStep ((s.enter m).hostDone 0x000101B8)) ∧
      exec (.registerWrite m priv 0x0000 data) s =
        .next (endOfStep ((s.enter m).hostRefused 0x0000 .readOnly true priv))) ∧
    (s.svcFree m →
      (∃ t, exec (.read m 0x0000) s = .next t ∧ ReadFrame a t a 0x01 0x0000 .ok 0x000101B8) ∧
      (∃ t, exec (.write m 0x0000 data) s = .next t ∧ WriteFrame a t a .readOnly 0x10 0x0000 data))

/-! ### Event sources -/

/-- A host write to SRC_ENTRY: BAD_VALUE for a word that breaks a value rule (R41), NOT_IDLE for one that R42 does not
accept, else the entry takes the word whole and a cleared enable acts as R49 says. -/
def Obligations.SrcEntryWritesAreJudgedThenWhole : Prop :=
  ∀ (m : Moment) (s : State) (i : SourceId) (priv : Bool) (data : Word), s.hostFree →
    let x := s.enter m
    let num : ItemNumber := BitVec.ofNat 16 (0x0100 + 2 * i.val)
    let e := entryOfWord data
    let old := s.src i
    let bad := (16 ≤ i.val ∧ e.trigger ≠ (if fixedEdge i then .edge else .level)) ∨
      (e.cls = .urgent ∧ e.spreadMode = true) ∨ (e.spreadMode = true ∧ e.spread = 0)
    let accepted := (old.entry.enable = false ∧ old.state = .idle) ∨ { e with enable := old.entry.enable } = old.entry
    (bad → exec (.srcEntry m priv i data) s = .next (endOfStep (x.hostRefused num .badValue true priv))) ∧
    (¬ bad → ¬ accepted →
      exec (.srcEntry m priv i data) s = .next (endOfStep (x.hostRefused num .notIdle true priv))) ∧
    (¬ bad → accepted →
      exec (.srcEntry m priv i data) s =
        .next (endOfStep ((x.setSrc i
          { old with
            entry := e
            state := if old.entry.enable = true ∧ e.enable = false then old.state.cleared else old.state }).hostDone 0)))

/-- What the end of a step makes of a NORMAL source (R46, R47, R55): a disabled one only shows its input; an enabled
LEVEL one follows its input; an enabled EDGE one takes the edges raised for it, one after another. -/
def Obligations.NormalSourcesAtTheEndOfAStep : Prop :=
  ∀ (u : State) (i : SourceId), (u.src i).entry.cls = .normal →
    let x : Source := { u.src i with input := u.inputOf i }
    (x.entry.enable = false → (endOfStep u).src i = x) ∧
    (x.entry.enable = true → x.entry.trigger = .level →
      (endOfStep u).src i = { x with state := x.followed (u.inputOf i) }) ∧
    (x.entry.enable = true → x.entry.trigger = .edge →
      (endOfStep u).src i = Source.edgeTaken^[u.raised.count i] x)

/-- Urgent activations of one step (R51, R52, R55): those that find their source IDLE join the urgent queue of their
fixed target in ascending source number while it has places and the target is in RUN; the rest are dropped and counted;
a QUEUED source keeps its place and counts a merge. What reaches a source: for an URGENT LEVEL source the rise of its
input, counted once with any edge raised for it, and the raised edges otherwise (R51). -/
def Obligations.UrgentArrivalsTakePlacesInSourceOrder : Prop :=
  ∀ (u : State) (f : TargetId), u.raised.Nodup → (u.tgt f).urgent.length ≤ 4 →
    let q := (u.tgt f).urgent
    let arrived := u.arrivals f
    let taken := if u.running f then arrived.take (4 - q.length) else []
    ((endOfStep u).tgt f).urgent = q ++ taken ∧
    ((endOfStep u).tgt f).lost.toNat = min 255 ((u.tgt f).lost.toNat + (arrived.length - taken.length)) ∧
    (∀ i ∈ arrived, ((endOfStep u).src i).merge = (u.src i).merge ∧
      ((endOfStep u).src i).state = if i ∈ taken then .queued f else .idle) ∧
    (∀ i, (u.src i).state = .queued f → (u.src i).entry.enable = true → (u.src i).entry.cls = .urgent →
      ((endOfStep u).src i).state = .queued f ∧
      ((endOfStep u).src i).merge =
        if activations u i = 0 then (u.src i).merge
        else if (u.src i).merge = 255 then 255 else (u.src i).merge + 1) ∧
    (∀ i,
      ((u.src i).entry.cls = .urgent → (u.src i).entry.trigger = .level →
        activations u i = if u.inputOf i = true ∧ (u.src i).input = false then 1 else 0) ∧
      ((u.src i).entry.cls = .normal ∨ (u.src i).entry.trigger = .edge → activations u i = u.raised.count i))

/-- One XR sampling (R38): taken at its microsecond, it keeps the sixteen levels as the samples and raises one edge for
each pin that is high where its previous sample was low. Which microsecond is next, and that the clock moves to it, are
log 2's. -/
def Obligations.XrSamplingTakesAllPinsAtOnce : Prop :=
  ∀ (m : Moment) (s : State), s.inReset = false →
    let x := s.enter m
    let k := max (s.sched.lastMicro + 1) ((x.now + 31) / 32)
    exec (.xrSampling m) s =
      .next (endOfStep { x with
        now := k * 32
        sched := { (if x.now < k * 32 then x.sched.newInstant else x.sched) with lastMicro := k }
        xrSample := m.pins.xr
        raised := allSources.filter fun i =>
          decide (i.val < 16) && m.pins.xr.getLsbD i.val && !s.xrSample.getLsbD i.val })

/-! ### Targets -/

/-- The candidate of a target (R60): among the enabled NORMAL PENDING sources at level 1 or more that are routed to it,
the one with the highest level, and of these the lowest number; none if there is no such source. -/
def Obligations.CandidateIsTheBestPresentableSource : Prop :=
  ∀ (s : State) (t : TargetId),
    let fit : SourceId → Prop := fun i =>
      (s.src i).entry.enable = true ∧ (s.src i).entry.cls = .normal ∧ (s.src i).state = .pending ∧
        (s.src i).entry.level ≠ 0 ∧
        (if (s.src i).entry.spreadMode then (s.src i).entry.spread.getLsbD t.val = true else (s.src i).entry.fixed = t)
    (∀ i, s.candidate t = some i ↔ fit i ∧ ∀ j, fit j →
      (s.src j).entry.level < (s.src i).entry.level ∨ ((s.src j).entry.level = (s.src i).entry.level ∧ i ≤ j)) ∧
    (s.candidate t = none ↔ ∀ i, ¬ fit i)

/-- The offer of a target (R61, R59): it has one exactly when it has a candidate above its CPL, a stack below 8 entries,
hold 0 and RUN; the offer is then the candidate at its level, and else the offer level is 0. -/
def Obligations.OfferNeedsAllFourConditions : Prop :=
  ∀ (s : State) (t : TargetId),
    (∀ i, s.offer t = some i ↔ s.candidate t = some i ∧ (s.tgt t).cpl < (s.src i).entry.level ∧
      (s.tgt t).stack.length < 8 ∧ (s.tgt t).hold = false ∧ (s.restart t).state = .run) ∧
    (∀ i, s.offer t = some i → s.offerLevel t = (s.src i).entry.level) ∧
    (s.offer t = none → s.offerLevel t = 0) ∧
    ((s.tgt t).stack = [] → (s.tgt t).cpl = (s.tgt t).floor) ∧
    (∀ below i level, (s.tgt t).stack = below ++ [(i, level)] →
      (s.tgt t).cpl = if (s.tgt t).floor < level then level else (s.tgt t).floor)

/-- A host read of TGT_TAKE (R63, R64): refused RESTARTING outside RUN; done with the empty dispatch word and no change
without an offer; else it takes the offered source. -/
def Obligations.TakeAcceptsTheOffer : Prop :=
  ∀ (m : Moment) (s : State) (t : TargetId) (priv : Bool), s.hostFree →
    let x := s.enter m
    let c := s.tgt t
    ((s.restart t).state ≠ .run →
      exec (.tgtTake m priv t) s =
        .next (endOfStep (x.hostRefused (BitVec.ofNat 16 (0x0200 + 16 * t.val)) .restarting false priv))) ∧
    ((s.restart t).state = .run → s.offer t = none →
      exec (.tgtTake m priv t) s = .next (endOfStep (x.hostDone 0x0000003F))) ∧
    (∀ i, s.offer t = some i →
      exec (.tgtTake m priv t) s =
        .next (endOfStep (((x.setSrc i { s.src i with state := .active t }).setTgt t
          { c with
            stack := c.stack ++ [(i, (s.src i).entry.level)]
            dispatch := dispatchAddress c.vbase c.vstride (s.src i).entry.tag
            takes := c.takes + 1 }).hostDone
          (dispatchWord i (s.src i).entry.level (c.stack.length + 1) (s.src i).entry.tag))))

/-- After a take the source is ACTIVE with the taking target, which has the source's level as its CPL, and no target is
offered it (R64, R66). -/
def Obligations.TakenSourceIsOfferedToNoTarget : Prop :=
  ∀ (m : Moment) (s t : State) (k : TargetId) (i : SourceId) (priv : Bool), s.hostFree → s.offer k = some i →
    exec (.tgtTake m priv k) s = .next t →
      (t.src i).state = .active k ∧ (t.tgt k).cpl = (s.src i).entry.level ∧
        (∀ j, t.candidate j ≠ some i ∧ t.offer j ≠ some i) ∧
        (∀ j, (t.out j).irq = (t.offer j).isSome ∧ (t.out j).lvl = t.offerLevel j)

/-- A host read of TGT_TAKE_URGENT (R67): refused RESTARTING outside RUN; done with the empty dispatch word and no change
on an empty queue; else it removes the head of the queue, which becomes IDLE. -/
def Obligations.UrgentTakeRemovesTheHead : Prop :=
  ∀ (m : Moment) (s : State) (t : TargetId) (priv : Bool), s.hostFree →
    let x := s.enter m
    ((s.restart t).state ≠ .run →
      exec (.tgtTakeUrgent m priv t) s =
        .next (endOfStep (x.hostRefused (BitVec.ofNat 16 (0x0200 + 16 * t.val + 1)) .restarting false priv))) ∧
    ((s.restart t).state = .run → (s.tgt t).urgent = [] →
      exec (.tgtTakeUrgent m priv t) s = .next (endOfStep (x.hostDone 0x0000003F))) ∧
    (∀ i rest, (s.restart t).state = .run → (s.tgt t).urgent = i :: rest →
      exec (.tgtTakeUrgent m priv t) s =
        .next (endOfStep (((x.setSrc i { s.src i with state := .idle }).setTgt t
          { s.tgt t with urgent := rest }).hostDone (dispatchWord i 0 0 (s.src i).entry.tag))))

/-- A host write to TGT_DONE (R68, R69, R48): BAD_VALUE for 38 to 63, then RESTARTING, then NOT_IN_SERVICE; else the
source's entry leaves the stack wherever it stands and the source leaves service. Bits 31:6 are ignored. -/
def Obligations.DoneCompletesOnlyWhatIsInService : Prop :=
  ∀ (m : Moment) (s : State) (t : TargetId) (priv : Bool) (data : Word), s.hostFree →
    let x := s.enter m
    let num : ItemNumber := BitVec.ofNat 16 (0x0200 + 16 * t.val + 2)
    let n := (data.extractLsb' 0 6).toNat
    (38 ≤ n → exec (.tgtDone m priv t data) s = .next (endOfStep (x.hostRefused num .badValue true priv))) ∧
    (n < 38 → (s.restart t).state ≠ .run →
      exec (.tgtDone m priv t data) s = .next (endOfStep (x.hostRefused num .restarting true priv))) ∧
    (∀ i : SourceId, i.val = n → (s.restart t).state = .run →
      (i ∉ (s.tgt t).stack.map (·.1) →
        exec (.tgtDone m priv t data) s = .next (endOfStep (x.hostRefused num .notInService true priv))) ∧
      (i ∈ (s.tgt t).stack.map (·.1) →
        exec (.tgtDone m priv t data) s =
          .next (endOfStep (((x.setSrc i { s.src i with state := (s.src i).left }).setTgt t
            { s.tgt t with stack := (s.tgt t).stack.filter (fun e => decide (e.1 ≠ i)) }).hostDone 0))))

/-- A host write to SRC_STATUS sets the merge count to 0 and does nothing else (R45). Host writes of a target's
settings: TGT_FLOOR, TGT_VBASE and TGT_VSTRIDE take the stated bits in RUN and are refused
RESTARTING outside it, a stride code of 5 to 7 BAD_VALUE first; TGT_URGENT_STATUS clears URGENT_LOST in every restart
state (R72, R73, R74). -/
def Obligations.MergeCountAndTargetSettingsWrites : Prop :=
  ∀ (m : Moment) (s : State) (i : SourceId) (t : TargetId) (priv : Bool) (data : Word), s.hostFree →
    let x := s.enter m
    let num : Nat → ItemNumber := fun k => BitVec.ofNat 16 (0x0200 + 16 * t.val + k)
    ((s.restart t).state = .run →
      exec (.tgtFloor m priv t data) s =
        .next (endOfStep ((x.setTgt t { s.tgt t with floor := data.extractLsb' 0 5 }).hostDone 0)) ∧
      exec (.registerWrite m priv (num 6) data) s =
        .next (endOfStep ((x.setTgt t { s.tgt t with vbase := data.extractLsb' 12 20 }).hostDone 0)) ∧
      ((data.extractLsb' 0 3).toNat ≤ 4 →
        exec (.registerWrite m priv (num 7) data) s =
          .next (endOfStep ((x.setTgt t { s.tgt t with vstride := data.extractLsb' 0 3 }).hostDone 0)))) ∧
    ((s.restart t).state ≠ .run →
      exec (.tgtFloor m priv t data) s = .next (endOfStep (x.hostRefused (num 5) .restarting true priv)) ∧
      exec (.registerWrite m priv (num 6) data) s = .next (endOfStep (x.hostRefused (num 6) .restarting true priv)) ∧
      ((data.extractLsb' 0 3).toNat ≤ 4 →
        exec (.registerWrite m priv (num 7) data) s =
          .next (endOfStep (x.hostRefused (num 7) .restarting true priv)))) ∧
    (4 < (data.extractLsb' 0 3).toNat →
      exec (.registerWrite m priv (num 7) data) s = .next (endOfStep (x.hostRefused (num 7) .badValue true priv))) ∧
    exec (.tgtUrgentStatus m priv t data) s =
      .next (endOfStep ((x.setTgt t { s.tgt t with lost := 0 }).hostDone 0)) ∧
    exec (.srcStatus m priv i data) s = .next (endOfStep ((x.setSrc i { s.src i with merge := 0 }).hostDone 0))

/-- RING sets the word and the unread flag of a doorbell whose flag is clear, posts PENDING_UNREAD and keeps the word of
one whose flag is set, in every restart state; the host read of DOORBELL_WORD returns the word and clears the flag
(R33, R34). -/
def Obligations.DoorbellsAreRungAndRead : Prop :=
  ∀ (m : Moment) (s : State) (k : TargetId) (priv : Bool) (arg : BitVec 16) (data : Word),
    let x := s.enter m
    let a := s.arrive m
    (s.hostFree →
      exec (.doorbellWord m priv k) s =
        .next (endOfStep ((x.setBell k { s.bell k with unread := false }).hostDone (s.bell k).word))) ∧
    (s.svcFree m →
      (arg.toNat = k.val → (s.bell k).unread = false →
        ∃ t, exec (.ring m arg data) s = .next t ∧ WriteFrame a t (a.setBell k ⟨data, true⟩) .ok 0x30 arg data) ∧
      (arg.toNat = k.val → (s.bell k).unread = true →
        ∃ t, exec (.ring m arg data) s = .next t ∧ WriteFrame a t a .pendingUnread 0x30 arg data) ∧
      (4 ≤ arg.toNat → ∃ t, exec (.ring m arg data) s = .next t ∧ WriteFrame a t a .badValue 0x30 arg data))

/-! ### Lines -/

/-- LINE_START and LINE_STOP with HPRIV, and START and STOP to LINE_CONTROL, in every line state (R80, R81): a started
line's receiver waits for mark on a new sample grid, a stop drains a character in the transmitter; without HPRIV the host
items are PROTECTED, and the command 0 to LINE_CONTROL is BAD_VALUE. -/
def Obligations.LinesStartAndStop : Prop :=
  ∀ (m : Moment) (s : State) (l : LineId) (high : BitVec 30) (data : Word),
    let x := s.enter m
    let a := s.arrive m
    let y := s.line l
    let num : Nat → ItemNumber := fun k => BitVec.ofNat 16 (256 * l.unit + k)
    let started : State → State := fun u =>
      if y.state = .running then u
      else u.setLine l { y with state := .running, rx := ⟨.waitMark, u.now, 0, u.now⟩ }
    let stopped : State → State := fun u =>
      if y.state = .running then
        u.setLine l
          { y with state := if y.tx = none then .stopped else .draining, rx := { y.rx with phase := .off } }
      else u
    (s.hostFree →
      exec (.lineStart m true l data) s = .next (endOfStep ((started x).hostDone 0)) ∧
      exec (.lineStop m true l data) s = .next (endOfStep ((stopped x).hostDone 0)) ∧
      exec (.lineStart m false l data) s = .next (endOfStep (x.hostRefused (num 2) .protection true false)) ∧
      exec (.lineStop m false l data) s = .next (endOfStep (x.hostRefused (num 3) .protection true false))) ∧
    (s.svcFree m →
      (∃ t, exec (.lineControlStart m l high) s = .next t ∧ WriteFrame a t (started a) .ok 0x10 (num 5) (high ++ 1#2)) ∧
      (∃ t, exec (.lineControlStop m l high) s = .next t ∧ WriteFrame a t (stopped a) .ok 0x10 (num 5) (high ++ 2#2)) ∧
      (∃ t, exec (.write m (num 5) (high ++ 0#2)) s = .next t ∧ WriteFrame a t a .badValue 0x10 (num 5) (high ++ 0#2)))

/-- LINE_CLEAR with HPRIV and CLEAR to LINE_CONTROL (R96, R128): queues and flags of both channels, transmitter and
receiver, the end of a DRAINING, a held request on the line refused CLEARED, both lanes of the line aborted; all else of
the line is kept. Without HPRIV the host item is PROTECTED. -/
def Obligations.LineClearEmptiesTheLine : Prop :=
  ∀ (m : Moment) (s : State) (l : LineId) (high : BitVec 30) (data : Word),
    let x := s.enter m
    let a := s.arrive m
    let y := s.line l
    let num : Nat → ItemNumber := fun k => BitVec.ofNat 16 (256 * l.unit + k)
    let cleared : Line :=
      { y with
        prog := { y.prog with rx := [], tx := [], flags := 0 }
        serv := { y.serv with rx := [], tx := [], flags := 0 }
        tx := none
        state := if y.state = .draining then .stopped else y.state
        rx := { y.rx with phase := if y.state = .running then .waitMark else .off, fresh := x.now } }
    let aborted : State → State := fun u =>
      (u.setLane (rxLane l) (s.lane (rxLane l)).aborted).setLane (txLane l) (s.lane (txLane l)).aborted
    (s.hostFree →
      exec (.lineClear m true l data) s = .next (endOfStep ((aborted (x.setLine l cleared)).hostDone 0)) ∧
      exec (.lineClear m false l data) s = .next (endOfStep (x.hostRefused (num 4) .protection true false))) ∧
    (s.svcFree m →
      ((∀ h, s.heldRequest = some h → h.line ≠ l) →
        ∃ t, exec (.lineControlClear m l high) s = .next t ∧
          WriteFrame a t (aborted (a.setLine l cleared)) .ok 0x10 (num 5) (high ++ 3#2)) ∧
      (∀ h, s.heldRequest = some h → h.line = l →
        ∃ t, exec (.lineControlClear m l high) s = .next t ∧
          WriteFrame a t (aborted ((a.setLine l cleared).heldRefused .cleared)) .ok 0x10 (num 5) (high ++ 3#2)))

/-- LINE_RX and LINE_TX (R87, R88) and POP and PUSH (R28) on their channel's queues: LANE_BUSY first for the host, then
EMPTY or FULL, else the oldest entry's receive data word, whose layout is that of R86, or the appending of bits 7:0. -/
def Obligations.CharacterQueueAccesses : Prop :=
  (∀ (m : Moment) (s : State) (l : LineId) (priv : Bool) (data : Word),
    let x := s.enter m
    let a := s.arrive m
    let y := s.line l
    let num : Nat → ItemNumber := fun k => BitVec.ofNat 16 (256 * l.unit + k)
    let arg : BitVec 16 := match l with | .a => 0 | .b => 1
    (s.hostFree →
      ((s.lane (rxLane l)).state ≠ .idle →
        exec (.lineRx m priv l) s = .next (endOfStep (x.hostRefused (num 6) .laneBusy false priv))) ∧
      ((s.lane (rxLane l)).state = .idle → y.prog.rx = [] →
        exec (.lineRx m priv l) s = .next (endOfStep (x.hostRefused (num 6) .empty false priv))) ∧
      (∀ e rest, (s.lane (rxLane l)).state = .idle → y.prog.rx = e :: rest →
        exec (.lineRx m priv l) s =
          .next (endOfStep ((x.setLine l { y with prog := { y.prog with rx := rest } }).hostDone
            (rxWord e rest.length)))) ∧
      ((s.lane (txLane l)).state ≠ .idle →
        exec (.lineTx m priv l data) s = .next (endOfStep (x.hostRefused (num 8) .laneBusy true priv))) ∧
      ((s.lane (txLane l)).state = .idle → 32 ≤ y.prog.tx.length →
        exec (.lineTx m priv l data) s = .next (endOfStep (x.hostRefused (num 8) .full true priv))) ∧
      ((s.lane (txLane l)).state = .idle → y.prog.tx.length < 32 →
        exec (.lineTx m priv l data) s =
          .next (endOfStep ((x.setLine l
            { y with prog := { y.prog with tx := y.prog.tx ++ [data.extractLsb' 0 8] } }).hostDone 0)))) ∧
    (s.svcFree m →
      (y.serv.rx = [] → ∃ t, exec (.pop m arg) s = .next t ∧ ReadFrame a t a 0x02 arg .empty 0) ∧
      (∀ e rest, y.serv.rx = e :: rest →
        ∃ t, exec (.pop m arg) s = .next t ∧
          ReadFrame a t (a.setLine l { y with serv := { y.serv with rx := rest } }) 0x02 arg .ok (rxWord e rest.length)) ∧
      (32 ≤ y.serv.tx.length → ∃ t, exec (.push m arg data) s = .next t ∧ WriteFrame a t a .full 0x11 arg data) ∧
      (y.serv.tx.length < 32 →
        ∃ t, exec (.push m arg data) s = .next t ∧
          WriteFrame a t (a.setLine l { y with serv := { y.serv with tx := y.serv.tx ++ [data.extractLsb' 0 8] } })
            .ok 0x11 arg data) ∧
      (∀ other : BitVec 16, 2 ≤ other.toNat →
        (∃ t, exec (.pop m other) s = .next t ∧ ReadFrame a t a 0x02 other .badValue 0) ∧
        (∃ t, exec (.push m other data) s = .next t ∧ WriteFrame a t a .badValue 0x11 other data)))) ∧
  (∀ (e : RxEntry) (left : Nat), left ≤ 31 →
    (rxWord e left).extractLsb' 0 8 = e.value ∧ (rxWord e left).getLsbD 8 = e.parity ∧
      (rxWord e left).getLsbD 9 = e.framing ∧ (rxWord e left).getLsbD 10 = e.brk ∧
      (rxWord e left).extractLsb' 11 5 = 0 ∧ ((rxWord e left).extractLsb' 16 16).toNat = left)

/-- Writes of a line's settings and flags: LINE_FORMAT (BAD_VALUE, then NOT_IDLE), LINE_THRESH, LINE_ALARM_MASK,
LINE_CTLCHARS, LINE_PECHO and LINE_PERR from the host, LINE_SECHO and LINE_SERR from the service port; a flag write
clears the flags whose bits are 1 (R79, R92, R93, R95, R101, R111). -/
def Obligations.LineSettingsAndFlagWrites : Prop :=
  ∀ (m : Moment) (s : State) (l : LineId) (priv : Bool) (data : Word),
    let x := s.enter m
    let a := s.arrive m
    let y := s.line l
    let num : Nat → ItemNumber := fun k => BitVec.ofNat 16 (256 * l.unit + k)
    let rxT : BitVec 6 := data.extractLsb' 0 6
    let txT : BitVec 6 := data.extractLsb' 8 6
    let c := ctlOfWord data
    let flags : BitVec 5 := data.extractLsb' 0 5
    (s.hostFree →
      (data.extractLsb' 8 2 = 3 →
        exec (.registerWrite m priv (num 0) data) s = .next (endOfStep (x.hostRefused (num 0) .badValue true priv))) ∧
      (data.extractLsb' 8 2 ≠ 3 → y.state ≠ .stopped →
        exec (.registerWrite m priv (num 0) data) s = .next (endOfStep (x.hostRefused (num 0) .notIdle true priv))) ∧
      (data.extractLsb' 8 2 ≠ 3 → y.state = .stopped →
        exec (.registerWrite m priv (num 0) data) s =
          .next (endOfStep ((x.setLine l { y with format := formatOfWord data }).hostDone 0))) ∧
      (1 ≤ rxT.toNat ∧ rxT.toNat ≤ 32 ∧ 1 ≤ txT.toNat ∧ txT.toNat ≤ 32 →
        exec (.registerWrite m priv (num 0x0A) data) s =
          .next (endOfStep ((x.setLine l
            { y with rxThresh := rxT, txThresh := txT, interest := data.getLsbD 16 }).hostDone 0))) ∧
      (¬ (1 ≤ rxT.toNat ∧ rxT.toNat ≤ 32 ∧ 1 ≤ txT.toNat ∧ txT.toNat ≤ 32) →
        exec (.registerWrite m priv (num 0x0A) data) s =
          .next (endOfStep (x.hostRefused (num 0x0A) .badValue true priv))) ∧
      exec (.registerWrite m priv (num 0x0D) data) s =
        .next (endOfStep ((x.setLine l { y with alarmMask := flags }).hostDone 0)) ∧
      (c.seize ≠ c.yield ∧ c.seize ≠ c.attention ∧ c.yield ≠ c.attention →
        exec (.registerWrite m priv (num 0x12) data) s =
          .next (endOfStep ((x.setLine l { y with ctl := c }).hostDone 0))) ∧
      (c.seize = c.yield ∨ c.seize = c.attention ∨ c.yield = c.attention →
        exec (.registerWrite m priv (num 0x12) data) s =
          .next (endOfStep (x.hostRefused (num 0x12) .badValue true priv))) ∧
      exec (.registerWrite m priv (num 0x13) data) s =
        .next (endOfStep ((x.setLine l { y with prog := { y.prog with echo := data.getLsbD 0 } }).hostDone 0)) ∧
      exec (.linePerr m priv l data) s =
        .next (endOfStep ((x.setLine l { y with prog := { y.prog with flags := y.prog.flags &&& ~~~flags } }).hostDone
          0))) ∧
    (s.svcFree m →
      (∃ t, exec (.write m (num 0x14) data) s = .next t ∧
        WriteFrame a t (a.setLine l { y with serv := { y.serv with echo := data.getLsbD 0 } }) .ok 0x10 (num 0x14) data) ∧
      (∃ t, exec (.lineSerr m l data) s = .next t ∧
        WriteFrame a t (a.setLine l { y with serv := { y.serv with flags := y.serv.flags &&& ~~~flags } }) .ok 0x10
          (num 0x0C) data))

/-- RELEASE_LINE, RECLAIM_LINE, UNLOCK_SEIZE, SEIZE_LINE and YIELD_LINE (R105 to R109) by owner, permission and
privilege: a change of owner raises one edge on the ownership change source, and a command that finds the owner as it
asks changes no owner; a denied seize is counted and flagged. -/
def Obligations.OwnershipCommands : Prop :=
  ∀ (m : Moment) (s : State) (l : LineId) (priv : Bool) (data : Word),
    let x := s.enter m
    let a := s.arrive m
    let y := s.line l
    let num : Nat → ItemNumber := fun k => BitVec.ofNat 16 (256 * l.unit + k)
    let arg : BitVec 16 := match l with | .a => 0 | .b => 1
    let k : Nat := match l with | .a => 0 | .b => 1
    let edge : SourceId := match l with | .a => 27 | .b => 31
    let permitted := m.pins.seizePermit = true ∧ y.lock = false
    let toService : State → State := fun u => (u.setLine l { y with owner := .service }).raise edge
    let toProgram : State → State := fun u => (u.setLine l { y with owner := .program }).raise edge
    let denied : State :=
      (a.setLine l { y with denied := if y.denied = 255 then 255 else y.denied + 1 }).setSticky (4 + k)
    (s.hostFree →
      (y.owner = .program → exec (.releaseLine m priv l data) s = .next (endOfStep ((toService x).hostDone 0))) ∧
      (y.owner = .service → exec (.releaseLine m priv l data) s = .next (endOfStep (x.hostDone 0))) ∧
      (y.owner = .service →
        exec (.reclaimLine m true l data) s =
          .next (endOfStep ((((x.setLine l { y with owner := .program, lock := true }).raise edge).setSticky
            (2 + k)).hostDone 0))) ∧
      (y.owner = .program →
        exec (.reclaimLine m true l data) s =
          .next (endOfStep ((x.setLine l { y with lock := true }).hostDone 0))) ∧
      exec (.reclaimLine m false l data) s = .next (endOfStep (x.hostRefused (num 0x10) .protection true false)) ∧
      exec (.unlockSeize m true l data) s =
        .next (endOfStep ((x.setLine l { y with lock := false }).hostDone 0)) ∧
      exec (.unlockSeize m false l data) s = .next (endOfStep (x.hostRefused (num 0x11) .protection true false))) ∧
    (s.svcFree m →
      (y.owner = .program → permitted →
        ∃ t, exec (.seizeLine m arg data) s = .next t ∧ WriteFrame a t (toService a) .ok 0x20 arg data) ∧
      (y.owner = .program → ¬ permitted →
        ∃ t, exec (.seizeLine m arg data) s = .next t ∧ WriteFrame a t denied .seizeDenied 0x20 arg data) ∧
      (y.owner = .service → ∃ t, exec (.seizeLine m arg data) s = .next t ∧ WriteFrame a t a .ok 0x20 arg data) ∧
      (y.owner = .service → ∃ t, exec (.yieldLine m arg data) s = .next t ∧ WriteFrame a t (toProgram a) .ok 0x21 arg data) ∧
      (y.owner = .program → ∃ t, exec (.yieldLine m arg data) s = .next t ∧ WriteFrame a t a .ok 0x21 arg data) ∧
      (∀ other : BitVec 16, 2 ≤ other.toNat →
        (∃ t, exec (.seizeLine m other data) s = .next t ∧ WriteFrame a t a .badValue 0x20 other data) ∧
        (∃ t, exec (.yieldLine m other data) s = .next t ∧ WriteFrame a t a .badValue 0x21 other data)))

/-- How a frame is judged (R83) and sent (R91): a break is a stop bit at space with every sampled bit at space; else the
value is the data bits, with a parity mark when the ones do not match and a framing mark for a stop bit at space. The bits
sent are a start bit at space, the data bits least significant first, the parity bit that makes the ones even or odd, and
stop bits at mark; the bits sampled are the data bits least significant first, the parity bit, the first stop bit. So a
frame sent under a format is received under it as the unmarked character of its data bits. -/
def Obligations.FramesAreJudgedAsTheyAreSent : Prop :=
  (∀ (f : Format) (raw : RawFrame),
    let n := if f.seven then 7 else 8
    let bits := (List.range n).map raw.data.getLsbD
    let ones := bits.count true + (if raw.parity then 1 else 0)
    let isBreak := raw.stop = false ∧ (∀ b ∈ bits, b = false) ∧ (f.parity = .none ∨ raw.parity = false)
    let e := judge f raw
    (isBreak → e = ⟨0, false, false, true⟩) ∧
    (¬ isBreak → e.brk = false ∧ e.framing = !raw.stop ∧
      (e.parity = true ↔ (f.parity = .even ∧ ones % 2 = 1) ∨ (f.parity = .odd ∧ ones % 2 = 0)) ∧
      ∀ k, e.value.getLsbD k = (decide (k < n) && raw.data.getLsbD k))) ∧
  (∀ (f : Format) (v : Byte),
    judge f (rawOfBits f (((f.sentBits v).drop 1).take f.sampledLength)) = ⟨f.dataValue v, false, false, false⟩ ∧
    (f.sentBits v).length = 1 + f.sampledLength + (if f.twoStop then 1 else 0) ∧ (f.sentBits v).head? = some false) ∧
  (∀ (f : Format) (v : Byte),
    let n := if f.seven then 7 else 8
    let p := if f.parity = .none then 0 else 1
    let sent := f.sentBits v
    let ones (b : Bool) : Nat := (((List.range n).map v.getLsbD) ++ [b]).count true
    sent.length = 1 + n + p + (if f.twoStop then 2 else 1) ∧ sent[0]? = some false ∧
      (∀ k < n, sent[1 + k]? = some (v.getLsbD k)) ∧
      (f.parity = .even → ∃ b, sent[1 + n]? = some b ∧ ones b % 2 = 0) ∧
      (f.parity = .odd → ∃ b, sent[1 + n]? = some b ∧ ones b % 2 = 1) ∧
      ∀ k, 1 + n + p ≤ k → k < sent.length → sent[k]? = some true) ∧
  (∀ (f : Format) (got : List Bool),
    let n := if f.seven then 7 else 8
    let p := if f.parity = .none then 0 else 1
    let raw := rawOfBits f got
    got.length = n + p + 1 →
      (∀ k < n, got[k]? = some (raw.data.getLsbD k)) ∧ (∀ k, n ≤ k → raw.data.getLsbD k = false) ∧
        (f.parity ≠ .none → got[n]? = some raw.parity) ∧ got[n + p]? = some raw.stop)

/-- The receiver completion of a RUNNING line (R84, R85, R101 to R104, R109, R112), on the given samples or on those of
the receiver's own complete frame: the arbiter acts on a control character, and every other frame goes to the owner's
channel; otherwise nothing. Given samples of a frame that cannot have begun since the receiver last began afresh, by a
start, a clear or a completion, are not delivered (R83, R114). The given samples are the model's (log 10), nothing
otherwise is the model's choice (log 13). -/
def Obligations.ReceiverCompletionDeliversTheFrame : Prop :=
  ∀ (m : Moment) (s : State) (l : LineId) (given : Option RawFrame) (raw : RawFrame), s.inReset = false →
    let x := s.enter m
    let y := s.line l
    let c := y.ctl
    let e := judge y.format raw
    let z : Line :=
      { y with rx := { y.rx with
          phase := if e.brk then .postBreak 0 else if e.framing then .waitMark else .hunting
          fresh := x.now } }
    let sampled := (if y.format.seven then 7 else 8) + (if y.format.parity = .none then 0 else 1) + 1
    let inTime := y.rx.fresh + (8 + 16 * sampled) * bitTime y.format.rate / 16 ≤ x.now
    let plain := c.recognition = true ∧ e.parity = false ∧ e.framing = false ∧ e.brk = false
    let permitted := m.pins.seizePermit = true ∧ y.lock = false
    let k : Nat := match l with | .a => 0 | .b => 1
    let change : SourceId := match l with | .a => 27 | .b => 31
    let call : SourceId := match l with | .a => 26 | .b => 30
    (y.state ≠ .running → exec (.receiverCompletion m l given) s = .next (endOfStep x)) ∧
    (y.state = .running → given = none → (∀ r, y.rx.phase ≠ .complete r) →
      exec (.receiverCompletion m l given) s = .next (endOfStep x)) ∧
    (y.state = .running → given = some raw → ¬ inTime →
      exec (.receiverCompletion m l given) s = .next (endOfStep x)) ∧
    (y.state = .running → (given = some raw ∧ inTime) ∨ (given = none ∧ y.rx.phase = .complete raw) →
      (plain → e.value = c.seize →
        (y.owner = .service → exec (.receiverCompletion m l given) s = .next (endOfStep (x.setLine l z))) ∧
        (y.owner = .program → permitted →
          exec (.receiverCompletion m l given) s =
            .next (endOfStep ((x.setLine l { z with owner := .service }).raise change))) ∧
        (y.owner = .program → ¬ permitted →
          exec (.receiverCompletion m l given) s =
            .next (endOfStep ((x.setLine l
              { z with denied := if y.denied = 255 then 255 else y.denied + 1 }).setSticky (4 + k))))) ∧
      (plain → e.value ≠ c.seize → e.value = c.yield →
        (y.owner = .program → exec (.receiverCompletion m l given) s = .next (endOfStep (x.setLine l z))) ∧
        (y.owner = .service →
          exec (.receiverCompletion m l given) s =
            .next (endOfStep ((x.setLine l { z with owner := .program }).raise change)))) ∧
      (plain → e.value ≠ c.seize → e.value ≠ c.yield → e.value = c.attention →
        exec (.receiverCompletion m l given) s =
          .next (endOfStep (((x.setLine l z).raise call).setSticky k))) ∧
      (¬ plain ∨ (e.value ≠ c.seize ∧ e.value ≠ c.yield ∧ e.value ≠ c.attention) →
        exec (.receiverCompletion m l given) s =
          .next (endOfStep (x.setLine l
            (match y.owner with
              | .program => { z with prog := y.prog.taking e }
              | .service => { z with serv := y.serv.taking e })))))

/-- A receiver sample (R79, R82 to R84), which is no step: taken at its grid point, it moves the receiver's condition as
the rules say, and no item changes. A receiver that is off takes none. Which grid point is next is the model's choice
(log 2). -/
def Obligations.ReceiverSamplesFollowTheGrid : Prop :=
  (∀ (m : Moment) (s : State) (l : LineId), s.inReset = false →
    let x := s.enter m
    let y := s.line l
    let bt := bitTime y.format.rate
    let k := max (y.rx.index + 1) ((16 * (x.now - y.rx.origin) + (bt - 1)) / bt)
    let mark := match l with | .a => m.pins.rxdA | .b => m.pins.rxdB
    let after : RxPhase → State := fun p =>
      (x.lateTo (y.rx.origin + k * bt / 16)).setLine l { y with rx := { y.rx with phase := p, index := k } }
    let bits := (if y.format.seven then 7 else 8) + (if y.format.parity = .none then 0 else 1) + 1
    (y.state ≠ .running → exec (.receiverSample m l) s = .next x) ∧
    (y.state = .running →
      (y.rx.phase = .off → exec (.receiverSample m l) s = .next (after .off)) ∧
      (y.rx.phase = .waitMark →
        exec (.receiverSample m l) s = .next (after (if mark then .hunting else .waitMark))) ∧
      (y.rx.phase = .hunting →
        exec (.receiverSample m l) s = .next (after (if mark then .hunting else .checking 0))) ∧
      (∀ n, y.rx.phase = .checking n →
        exec (.receiverSample m l) s =
          .next (after (if n + 1 = 8 then (if mark then .hunting else .inFrame 0 []) else .checking (n + 1)))) ∧
      (∀ n got, y.rx.phase = .inFrame n got →
        exec (.receiverSample m l) s =
          .next (after
            (if n + 1 = 16 then
              if got.length + 1 = bits then .complete (rawOfBits y.format (got ++ [mark]))
              else .inFrame 0 (got ++ [mark])
            else .inFrame (n + 1) got))) ∧
      (∀ raw, y.rx.phase = .complete raw → exec (.receiverSample m l) s = .next (after (.complete raw))) ∧
      (∀ n, y.rx.phase = .postBreak n →
        exec (.receiverSample m l) s =
          .next (after (if mark then (if n + 1 = 16 then .hunting else .postBreak (n + 1)) else .postBreak 0))))) ∧
  (List.range 8).map (fun k => bitTime (BitVec.ofNat 3 k)) = [26667, 13333, 6667, 3333, 1667, 833, 556, 278]

/-- Transmitter starts and completions (R90, R91): a start takes the head of the owner's transmit queue when the line is
RUNNING and its transmitter idle; a completion, at the end of the last stop bit, leaves the transmitter idle and a
DRAINING line STOPPED. The transmit pin shows each bit of the character (FramesAreJudgedAsTheyAreSent gives them) for one
bit time from its start on, and mark after the last one and while the transmitter is idle. When they are not due nothing
changes: the model's choice (log 13); that a completion moves the clock to the character's end is log 2's. -/
def Obligations.TransmitterStartsAndCompletes : Prop :=
  (∀ (s : State) (l : LineId), s.inReset = false →
    let y := s.line l
    let bt := bitTime y.format.rate
    (y.tx = none → s.txd l = true) ∧
    (∀ c, y.tx = some c →
      let sent := y.format.sentBits c.value
      (∀ k < sent.length, c.started + k * bt ≤ s.now → s.now < c.started + (k + 1) * bt →
        sent[k]? = some (s.txd l)) ∧
      (c.started + sent.length * bt ≤ s.now → s.txd l = true))) ∧
  ∀ (m : Moment) (s : State) (l : LineId), s.inReset = false →
    let x := s.enter m
    let y := s.line l
    let noted : State → State := fun u => { u with sched := { u.sched with passed7 := true } }
    let length := 1 + (if y.format.seven then 7 else 8) + (if y.format.parity = .none then 0 else 1) +
      (if y.format.twoStop then 2 else 1)
    (∀ v rest, y.state = .running → y.tx = none → y.owner = .program → y.prog.tx = v :: rest →
      exec (.transmitterStart m l) s =
        .next (endOfStep ((noted x).setLine l
          { y with prog := { y.prog with tx := rest }, tx := some ⟨v, x.now⟩ }))) ∧
    (∀ v rest, y.state = .running → y.tx = none → y.owner = .service → y.serv.tx = v :: rest →
      exec (.transmitterStart m l) s =
        .next (endOfStep ((noted x).setLine l
          { y with serv := { y.serv with tx := rest }, tx := some ⟨v, x.now⟩ }))) ∧
    (y.state ≠ .running ∨ y.tx ≠ none ∨ (y.owner = .program ∧ y.prog.tx = []) ∨ (y.owner = .service ∧ y.serv.tx = []) →
      exec (.transmitterStart m l) s = .next (endOfStep x)) ∧
    (∀ c, y.tx = some c →
      exec (.transmitterCompletion m l) s =
        .next (endOfStep ((noted (x.lateTo (c.started + length * bitTime y.format.rate))).setLine l
          { y with tx := none, state := if y.state = .draining then .stopped else y.state }))) ∧
    (y.tx = none → exec (.transmitterCompletion m l) s = .next (endOfStep x))

/-! ### Sequencer -/

/-- A submission (R120): BAD_VALUE for an assembly that admits no job, then QUEUE_FULL at 8 queued jobs, else a copy of
the assembly starts at once on an IDLE lane and joins the queue of any other. -/
def Obligations.SubmissionIsCheckedThenCopied : Prop :=
  ∀ (m : Moment) (s : State) (n : LaneId) (priv : Bool) (data : Word), s.hostFree →
    let x := s.enter m
    let y := s.lane n
    let a := y.asm
    let num : ItemNumber := BitVec.ofNat 16 (0x0500 + 8 * n.val + 2)
    let job : Job :=
      ⟨a.tag, a.offset, a.length, if a.stopPresent then some a.stopValue else none, a.notify, a.endOnError,
        a.haltOnError⟩
    let bad := a.length = 0 ∨ 4096 < a.offset.toNat + a.length.toNat ∨
      ((n.val = 1 ∨ n.val = 3) ∧ (a.stopPresent = true ∨ a.endOnError = true ∨ a.haltOnError = true))
    (bad → exec (.tsqSubmit m priv n data) s = .next (endOfStep (x.hostRefused num .badValue true priv))) ∧
    (¬ bad → 8 ≤ y.queue.length →
      exec (.tsqSubmit m priv n data) s = .next (endOfStep (x.hostRefused num .queueFull true priv))) ∧
    (¬ bad → y.queue.length < 8 → y.state = .idle →
      exec (.tsqSubmit m priv n data) s =
        .next (endOfStep ((x.setLane n { y with state := .running job 0 }).hostDone 0))) ∧
    (¬ bad → y.queue.length < 8 → y.state ≠ .idle →
      exec (.tsqSubmit m priv n data) s =
        .next (endOfStep ((x.setLane n { y with queue := y.queue ++ [job] }).hostDone 0)))

/-- TSQ_COMMAND (R126, R127, R129): RESUME lets a HALTED lane go on and does nothing in every other state; ABORT acts by
its table; the commands 0 and 3 are BAD_VALUE. -/
def Obligations.ResumeAndAbort : Prop :=
  ∀ (m : Moment) (s : State) (n : LaneId) (priv : Bool) (high : BitVec 30), s.hostFree →
    let x := s.enter m
    let y := s.lane n
    let num : ItemNumber := BitVec.ofNat 16 (0x0500 + 8 * n.val + 3)
    (y.state = .halted → y.queue = [] →
      exec (.resume m priv n high) s = .next (endOfStep ((x.setLane n { y with state := .idle }).hostDone 0))) ∧
    (∀ j rest, y.state = .halted → y.queue = j :: rest →
      exec (.resume m priv n high) s =
        .next (endOfStep ((x.setLane n { y with state := .running j 0, queue := rest }).hostDone 0))) ∧
    (y.state ≠ .halted → exec (.resume m priv n high) s = .next (endOfStep (x.hostDone 0))) ∧
    exec (.abort m priv n high) s = .next (endOfStep ((x.setLane n y.aborted).hostDone 0)) ∧
    (∀ c : BitVec 2, c = 0 ∨ c = 3 →
      exec (.hostTransactionBegin m true priv num (high ++ c)) s =
        .next (endOfStep (x.hostRefused num .badValue true priv)))

/-- A host read of TSQ_RECORD (R125): the empty record word for an empty list; else the oldest record, with the placement
of a pending one and how the lane goes on, and the layout of the record word. TSQ_DISCARDED is cleared by a write
(R129). -/
def Obligations.RecordsAreCollectedInOrder : Prop :=
  (∀ (m : Moment) (s : State) (n : LaneId) (priv : Bool) (data : Word), s.hostFree →
    let x := s.enter m
    let y := s.lane n
    (y.records = [] → exec (.tsqRecord m priv n) s = .next (endOfStep (x.hostDone 0))) ∧
    (∀ r rest, y.records = r :: rest → (∀ p o, y.state ≠ .waitRecord p o) →
      exec (.tsqRecord m priv n) s =
        .next (endOfStep ((x.setLane n { y with records := rest }).hostDone (recordWord r rest.length)))) ∧
    (∀ r rest p, y.records = r :: rest → y.state = .waitRecord p .halt →
      exec (.tsqRecord m priv n) s =
        .next (endOfStep ((x.setLane n { y with records := rest ++ [p], state := .halted }).hostDone
          (recordWord r (rest.length + 1))))) ∧
    (∀ r rest p, y.records = r :: rest → y.state = .waitRecord p .continue →
      exec (.tsqRecord m priv n) s =
        .next (endOfStep ((x.setLane n
          (match y.queue with
            | [] => { y with records := rest ++ [p], state := .idle }
            | j :: jobs => { y with records := rest ++ [p], state := .running j 0, queue := jobs })).hostDone
          (recordWord r (rest.length + 1))))) ∧
    exec (.tsqDiscarded m priv n data) s = .next (endOfStep ((x.setLane n { y with discarded := 0 }).hostDone 0))) ∧
  (∀ (r : Record) (left : Nat), left ≤ 8 → r.moved ≤ 4096 →
    let w := recordWord r left
    w.extractLsb' 0 8 = r.tag ∧
      (w.extractLsb' 8 3).toNat =
        (match r.status with | .count => 1 | .stopChar => 2 | .error => 3 | .brk => 4 | .aborted => 5) ∧
      w.getLsbD 11 = r.notify ∧ (w.extractLsb' 12 4).toNat = left ∧ (w.extractLsb' 16 13).toNat = r.moved ∧
      w.extractLsb' 29 3 = 0)

/-- The move steps (R121 to R124): one entry from the program receive queue to the staging byte at the job's offset plus
its bytes moved, or one such byte to the program transmit queue, and the end of the job; no other byte of staging memory
changes. A lane that cannot move does nothing; an address beyond staging memory faults (log 12, log 13). The list of the
lanes that have moved in the present round, and when it begins anew, is the model's (log 8). -/
def Obligations.MovesTakeOneByte : Prop :=
  ∀ (m : Moment) (s : State) (l : LineId), s.inReset = false → StagingInv s →
    let x := s.enter m
    let y := s.line l
    let noted : LaneId → Sched := fun n =>
      { x.sched with passed8 := true, moved := if n ∈ x.sched.moved then [n] else n :: x.sched.moved }
    (∀ j k e rest, (s.lane (rxLane l)).state = .running j k → y.prog.rx = e :: rest →
      let address := j.offset.toNat + k
      let moved := if e.brk then k else k + 1
      let lane : Lane := s.lane (rxLane l)
      let lane' : Lane :=
        if e.brk then lane.ended ⟨j.tag, .brk, moved, j.notify⟩ j.haltOnError
        else if (e.parity = true ∨ e.framing = true) ∧ j.endOnError = true then
          lane.ended ⟨j.tag, .error, moved, j.notify⟩ j.haltOnError
        else if j.stopChar = some e.value then lane.ended ⟨j.tag, .stopChar, moved, j.notify⟩ false
        else if moved = j.length.toNat then lane.ended ⟨j.tag, .count, moved, j.notify⟩ false
        else { lane with state := .running j moved }
      (e.brk = true ∨ address < 4096 →
        ∃ mem, exec (.receiveMove m l) s =
            .next (endOfStep (({ x.setLine l { y with prog := { y.prog with rx := rest } } with
              staging := mem, sched := noted (rxLane l) } : State).setLane (rxLane l) lane')) ∧
          Memory.wf mem = true ∧
          ∀ a, readByte mem a = if e.brk = false ∧ a = address then e.value else readByte s.staging a) ∧
      (e.brk = false → 4096 ≤ address → exec (.receiveMove m l) s = .fault .stagingOutOfRange)) ∧
    (y.prog.rx = [] ∨ (∀ j k, (s.lane (rxLane l)).state ≠ .running j k) →
      exec (.receiveMove m l) s = .next (endOfStep x)) ∧
    (∀ j k, (s.lane (txLane l)).state = .running j k → y.prog.tx.length < 32 →
      let address := j.offset.toNat + k
      let lane : Lane := s.lane (txLane l)
      let lane' : Lane :=
        if k + 1 = j.length.toNat then lane.ended ⟨j.tag, .count, k + 1, j.notify⟩ false
        else { lane with state := .running j (k + 1) }
      (address < 4096 →
        exec (.transmitMove m l) s =
          .next (endOfStep (({ x.setLine l
              { y with prog := { y.prog with tx := y.prog.tx ++ [readByte s.staging address] } } with
            sched := noted (txLane l) } : State).setLane (txLane l) lane'))) ∧
      (4096 ≤ address → exec (.transmitMove m l) s = .fault .stagingOutOfRange)) ∧
    (32 ≤ y.prog.tx.length ∨ (∀ j k, (s.lane (txLane l)).state ≠ .running j k) →
      exec (.transmitMove m l) s = .next (endOfStep x))

/-- Host writes of the assembly items take their fields whole (R119); a host write of staging word k replaces its four
bytes and no other, and a read returns them, byte 4k + j in bits 8j to 8j + 7 (R116). -/
def Obligations.AssemblyAndStagingAccesses : Prop :=
  ∀ (m : Moment) (s : State) (n : LaneId) (k : Fin 1024) (priv : Bool) (data : Word), s.hostFree → StagingInv s →
    let x := s.enter m
    let y := s.lane n
    let a := y.asm
    let num : ItemNumber := BitVec.ofNat 16 (0x0A00 + k.val)
    exec (.registerWrite m priv (BitVec.ofNat 16 (0x0500 + 8 * n.val)) data) s =
      .next (endOfStep ((x.setLane n
        { y with asm := { a with offset := data.extractLsb' 0 12, length := data.extractLsb' 16 13 } }).hostDone 0)) ∧
    exec (.registerWrite m priv (BitVec.ofNat 16 (0x0500 + 8 * n.val + 1)) data) s =
      .next (endOfStep ((x.setLane n
        { y with asm :=
          ⟨a.offset, a.length, data.extractLsb' 0 8, data.extractLsb' 8 8, data.getLsbD 16, data.getLsbD 17,
            data.getLsbD 18, data.getLsbD 19⟩ }).hostDone 0)) ∧
    (∃ mem, exec (.registerWrite m priv num data) s =
        .next (endOfStep (({ x with staging := mem } : State).hostDone 0)) ∧ Memory.wf mem = true ∧
      ∀ b, readByte mem b =
        if b / 4 = k.val then data.extractLsb' (8 * (b % 4)) 8 else readByte s.staging b) ∧
    (∃ w : Word, exec (.hostTransactionBegin m false priv num data) s = .next (endOfStep (x.hostDone w)) ∧
      ∀ j < 4, w.extractLsb' (8 * j) 8 = readByte s.staging (4 * k.val + j))

/-! ### Timers -/

/-- START, STOP, ACK and a write to TTM_STATUS act in every timer state; without HPRIV a guarded timer is PROTECTED; the
command 0 is BAD_VALUE (R7, R136, R140). -/
def Obligations.TimerCommands : Prop :=
  ∀ (m : Moment) (s : State) (n : TimerId) (priv : Bool) (high : BitVec 30) (data : Word), s.hostFree →
    let x := s.enter m
    let y := s.timer n
    let num : Nat → ItemNumber := fun k => BitVec.ofNat 16 (0x0610 + 8 * n.val + k)
    (y.guard = false ∨ priv = true →
      exec (.start m priv n high) s =
        .next (endOfStep ((x.setTimer n { y with count := 0, state := .running }).hostDone 0)) ∧
      exec (.stop m priv n high) s = .next (endOfStep ((x.setTimer n { y with state := .stopped }).hostDone 0)) ∧
      exec (.ack m priv n high) s = .next (endOfStep ((x.setTimer n { y with mark := false }).hostDone 0)) ∧
      exec (.ttmStatus m priv n data) s = .next (endOfStep ((x.setTimer n { y with lost := 0 }).hostDone 0)) ∧
      exec (.hostTransactionBegin m true priv (num 3) (high ++ 0#2)) s =
        .next (endOfStep (x.hostRefused (num 3) .badValue true priv))) ∧
    (y.guard = true → priv = false →
      (∀ c, c = .start m priv n high ∨ c = .stop m priv n high ∨ c = .ack m priv n high →
        exec c s = .next (endOfStep (x.hostRefused (num 3) .protection true priv))) ∧
      exec (.ttmStatus m priv n data) s = .next (endOfStep (x.hostRefused (num 4) .protection true priv)))

/-- Writes of TTM_TICK, TTM_CONFIG and TTM_LIMIT in the order of their checks: privilege for a guarded timer and for a
change of guard, BAD_VALUE for a length or limit of 0, NOT_IDLE while a timer runs; an accepted TTM_TICK moves the origin
(R132, R134, R135). -/
def Obligations.TimerSettingsWrites : Prop :=
  ∀ (m : Moment) (s : State) (n : TimerId) (priv : Bool) (data : Word), s.hostFree →
    let x := s.enter m
    let y := s.timer n
    let num : Nat → ItemNumber := fun k => BitVec.ofNat 16 (0x0610 + 8 * n.val + k)
    let length : BitVec 16 := data.extractLsb' 0 16
    let limit : BitVec 24 := data.extractLsb' 0 24
    let secret := y.guard = true ∨ data.getLsbD 1 ≠ y.guard
    (length = 0 → exec (.ttmTick m priv data) s = .next (endOfStep (x.hostRefused 0x0600 .badValue true priv))) ∧
    (length ≠ 0 → (∃ k, (s.timer k).state = .running) →
      exec (.ttmTick m priv data) s = .next (endOfStep (x.hostRefused 0x0600 .notIdle true priv))) ∧
    (length ≠ 0 → (∀ k, (s.timer k).state ≠ .running) →
      exec (.ttmTick m priv data) s =
        .next (endOfStep (({ x with tick := ⟨length, x.now⟩, sched := { x.sched with lastTick := 0 } } : State).hostDone
          0))) ∧
    (secret → priv = false →
      exec (.registerWrite m priv (num 0) data) s =
        .next (endOfStep (x.hostRefused (num 0) .protection true priv))) ∧
    (¬ secret ∨ priv = true → y.state = .running → data.getLsbD 0 ≠ y.periodic →
      exec (.registerWrite m priv (num 0) data) s = .next (endOfStep (x.hostRefused (num 0) .notIdle true priv))) ∧
    (¬ secret ∨ priv = true → y.state ≠ .running ∨ data.getLsbD 0 = y.periodic →
      exec (.registerWrite m priv (num 0) data) s =
        .next (endOfStep ((x.setTimer n
          { y with
            periodic := data.getLsbD 0
            guard := data.getLsbD 1
            escalation := if data.getLsbD 4 then some (toFour (data.extractLsb' 5 2)) else none }).hostDone 0))) ∧
    (y.guard = true → priv = false →
      exec (.registerWrite m priv (num 1) data) s =
        .next (endOfStep (x.hostRefused (num 1) .protection true priv))) ∧
    (y.guard = false ∨ priv = true →
      (limit = 0 →
        exec (.registerWrite m priv (num 1) data) s =
          .next (endOfStep (x.hostRefused (num 1) .badValue true priv))) ∧
      (limit ≠ 0 → y.state = .running →
        exec (.registerWrite m priv (num 1) data) s = .next (endOfStep (x.hostRefused (num 1) .notIdle true priv))) ∧
      (limit ≠ 0 → y.state ≠ .running →
        exec (.registerWrite m priv (num 1) data) s =
          .next (endOfStep ((x.setTimer n { y with limit := limit }).hostDone 0))))

/-- A tick step visits the four timers in ascending number (R137 to R139), each by the tables of counting and expiry, with
the escalation of a lost expiry in its place; EXPIRY is the visit of one timer that reaches its limit, at the instant of
the next tick. Which instant is next, and EXPIRY by itself, are the model's (log 2, log 9). -/
def Obligations.TickStepVisitsEveryTimer : Prop :=
  ∀ (m : Moment) (s : State) (n : TimerId), s.inReset = false →
    let x := s.arrive m
    let y := s.timer n
    let period := s.tick.length.toNat * 32
    let k := max (s.sched.lastTick + 1) ((x.now - s.tick.origin + (period - 1)) / period)
    let u := x.lateTo (s.tick.origin + k * period)
    exec (.tickStep m) s =
      .next (endOfStep
        (((({ u with sched := { u.sched with lastTick := k } } : State).timerVisited 0).timerVisited 1).timerVisited
          2 |>.timerVisited 3)) ∧
    (y.state = .running ∧ y.count + 1 = y.limit →
      exec (.expiry m n) s = .next (endOfStep (u.timerVisited n))) ∧
    (y.state ≠ .running ∨ y.count + 1 ≠ y.limit → exec (.expiry m n) s = .next (endOfStep x))

/-! ### Restart -/

/-- Restart requests by origin and restart state, and pulse ends (R144 to R147): RSC_RESTART asks a PULSE with cause HOST
and needs HPRIV; RESTART asks a PULSE or a HOLD with cause SERVICE; RELEASE_TARGET ends a hold; a pulse ends at its own
instant. That a pulse end moves the clock to that instant is log 2's; that PULSE_END without a pulse changes nothing is the
model's choice (log 13). -/
def Obligations.RestartRequestsAndPulseEnds : Prop :=
  ∀ (m : Moment) (s : State) (k : TargetId) (arg : BitVec 16) (data : Word),
    let x := s.enter m
    let a := s.arrive m
    (s.hostFree →
      exec (.rscRestart m true data) s =
        .next (endOfStep ((x.pulseAsked (toFour (data.extractLsb' 0 2)) .host).hostDone 0)) ∧
      exec (.rscRestart m false data) s = .next (endOfStep (x.hostRefused 0x0700 .protection true false))) ∧
    (s.svcFree m →
      (arg.toNat = k.val →
        (∃ t, exec (.restart m arg data) s = .next t ∧ WriteFrame a t (a.pulseAsked k .service) .ok 0x31 arg data) ∧
        ∃ t, exec (.releaseTarget m arg data) s = .next t ∧
          WriteFrame a t
            (if (s.restart k).state = .held then a.setRestart k { s.restart k with state := .run } else a)
            .ok 0x32 arg data) ∧
      (arg.toNat = 256 + k.val →
        ∃ t, exec (.restart m arg data) s = .next t ∧ WriteFrame a t (a.holdAsked k .service) .ok 0x31 arg data) ∧
      (4 ≤ arg.toNat % 256 ∨ 512 ≤ arg.toNat →
        ∃ t, exec (.restart m arg data) s = .next t ∧ WriteFrame a t a .badValue 0x31 arg data) ∧
      (4 ≤ arg.toNat → ∃ t, exec (.releaseTarget m arg data) s = .next t ∧ WriteFrame a t a .badValue 0x32 arg data)) ∧
    (s.inReset = false →
      (∀ ends, (s.restart k).state = .pulse ends →
        exec (.pulseEnd m k) s =
          .next (endOfStep ((a.lateTo ends).setRestart k { s.restart k with state := .run }))) ∧
      ((∀ ends, (s.restart k).state ≠ .pulse ends) → exec (.pulseEnd m k) s = .next (endOfStep a)))

/-- The button (R148): one sample of the debouncer at its millisecond, with the PULSE requests of a press to the mapped
targets in ascending number; BUTTON_PRESS is the sample that completes a press, by itself (log 9); which millisecond is
next, and that the clock moves to it, are log 2's. RSC_WIDTH and RSC_BUTTON_MAP are written from both ports, the host's
writes with HPRIV, a width of 0 refused (R146). -/
def Obligations.ButtonSamplesAndRestartSettings : Prop :=
  ∀ (m : Moment) (s : State) (data : Word),
    let x := s.enter m
    let a := s.arrive m
    let k := max (s.sched.lastMilli + 1) ((a.now + 31999) / 32000)
    let u := a.lateTo (k * 32000)
    let sampled : State :=
      { u with sched := { u.sched with lastMilli := k }, rsc := s.rsc.sampled m.pins.restartIn }
    let press := s.rsc.phase = .pressing ∧ s.rsc.run + 1 = 20 ∧ m.pins.restartIn = true
    let mapped : List TargetId := [0, 1, 2, 3].filter fun t => s.rsc.buttonMap.getLsbD t.val
    let pressed : State := mapped.foldl (fun v t => v.pulseAsked t .button) sampled
    let width : BitVec 8 := data.extractLsb' 0 8
    let withWidth : State → State := fun v => { v with rsc := { s.rsc with width := width } }
    let withMap : State → State := fun v => { v with rsc := { s.rsc with buttonMap := data.extractLsb' 0 4 } }
    (s.inReset = false →
      (press → exec (.buttonSample m) s = .next (endOfStep pressed) ∧
        exec (.buttonPress m) s = .next (endOfStep pressed)) ∧
      (¬ press → exec (.buttonSample m) s = .next (endOfStep sampled) ∧
        exec (.buttonPress m) s = .next (endOfStep a))) ∧
    (s.hostFree →
      exec (.registerWrite m false 0x0701 data) s = .next (endOfStep (x.hostRefused 0x0701 .protection true false)) ∧
      exec (.registerWrite m false 0x0702 data) s = .next (endOfStep (x.hostRefused 0x0702 .protection true false)) ∧
      (width = 0 →
        exec (.registerWrite m true 0x0701 data) s = .next (endOfStep (x.hostRefused 0x0701 .badValue true true))) ∧
      (width ≠ 0 → exec (.registerWrite m true 0x0701 data) s = .next (endOfStep ((withWidth x).hostDone 0))) ∧
      exec (.registerWrite m true 0x0702 data) s = .next (endOfStep ((withMap x).hostDone 0))) ∧
    (s.svcFree m →
      (width = 0 → ∃ t, exec (.write m 0x0701 data) s = .next t ∧ WriteFrame a t a .badValue 0x10 0x0701 data) ∧
      (width ≠ 0 → ∃ t, exec (.write m 0x0701 data) s = .next t ∧ WriteFrame a t (withWidth a) .ok 0x10 0x0701 data) ∧
      ∃ t, exec (.write m 0x0702 data) s = .next t ∧ WriteFrame a t (withMap a) .ok 0x10 0x0702 data)

/-! ### Service port -/

/-- STATUS returns the posted record (R23); READ is refused NO_ITEM and NOT_PERMITTED, else returns the item's word
with no consuming effect (R26); SNAPSHOT copies the concentrator's state at the start of its step (R35); each with a
bad argument is BAD_VALUE. A READ of TGT_TAKE, TGT_TAKE_URGENT, TSQ_RECORD or DOORBELL_WORD returns the word that a
host read that completes done would return at that moment, and the empty dispatch word outside RUN (R26), with the
count of records that the host read would leave (R125). The code, the argument and the data word are the bits of bytes
0, 1 and 2, 4 to 7, most significant first (R20), and SVC_DOUT shows the reply bit by bit: the alert summary, zeros,
the status byte, the data, then zeros, and low outside a frame (R19, R20, R25). -/
def Obligations.ServiceReadsAndSnapshot : Prop :=
  (∀ f : Frame,
    (8 ≤ f.bits.length → ∀ k < 8, f.code.getMsbD k = f.bits.getD k false) ∧
    (24 ≤ f.bits.length → ∀ k < 16, f.arg.getMsbD k = f.bits.getD (8 + k) false) ∧
    (64 ≤ f.bits.length → ∀ k < 32, f.word.getMsbD k = f.bits.getD (32 + k) false)) ∧
  (∀ s : State,
    (s.svc.frame = none ∨ s.inReset = true ∨ s.pins.svcSel = false → s.svcDout = false) ∧
    (∀ f, s.svc.frame = some f → s.inReset = false → s.pins.svcSel = true →
      let k := f.bits.length
      (k < 8 → s.svcDout = f.summary.getMsbD k) ∧
      (8 ≤ k → k < 24 → s.svcDout = false) ∧
      (24 ≤ k → k < 32 → ∀ b, f.status = some b → s.svcDout = b.getMsbD (k - 24)) ∧
      (32 ≤ k → k < 64 → s.svcDout = f.data.getMsbD (k - 32)) ∧
      (64 ≤ k → s.svcDout = false))) ∧
  ∀ (m : Moment) (s : State) (arg : BitVec 16), s.svcFree m →
    let a := s.arrive m
    let p := s.svc.posted
    (arg = 0 → ∃ (t : State) (w : Word), exec (.status m arg) s = .next t ∧ ReadFrame a t a 0x00 arg .ok w ∧
      w.extractLsb' 16 16 = p.arg ∧ w.extractLsb' 8 8 = p.code ∧ w.extractLsb' 4 4 = 0 ∧
      w.extractLsb' 0 4 = p.result) ∧
    (arg ≠ 0 → ∃ t, exec (.status m arg) s = .next t ∧ ReadFrame a t a 0x00 arg .badValue 0) ∧
    (decodeItem arg = none → ∃ t, exec (.read m arg) s = .next t ∧ ReadFrame a t a 0x01 arg .noItem 0) ∧
    (∀ it, decodeItem arg = some it → svcAccess it = .none →
      ∃ t, exec (.read m arg) s = .next t ∧ ReadFrame a t a 0x01 arg .notPermitted 0) ∧
    (∀ it, decodeItem arg = some it → svcAccess it ≠ .none →
      ∃ t, exec (.read m arg) s = .next t ∧ ReadFrame a t a 0x01 arg .ok (a.itemWord it)) ∧
    (let reads : ItemNumber → Word → Prop := fun num w =>
       ∃ t, exec (.read m num) s = .next t ∧ ReadFrame a t a 0x01 num .ok w
     (∀ k : TargetId,
       let unit := 0x0200 + 16 * k.val
       let c := s.tgt k
       let tag : SourceId → Byte := fun i => (s.src i).entry.tag
       let run := (s.restart k).state = .run
       (¬ run ∨ s.offer k = none → reads (BitVec.ofNat 16 unit) 0x0000003F) ∧
       (∀ i, s.offer k = some i →
         reads (BitVec.ofNat 16 unit) (dispatchWord i (s.src i).entry.level (c.stack.length + 1) (tag i))) ∧
       (¬ run ∨ c.urgent = [] → reads (BitVec.ofNat 16 (unit + 1)) 0x0000003F) ∧
       (∀ i rest, run → c.urgent = i :: rest → reads (BitVec.ofNat 16 (unit + 1)) (dispatchWord i 0 0 (tag i))) ∧
       reads (BitVec.ofNat 16 (unit + 14)) (s.bell k).word) ∧
     ∀ n : LaneId,
       let num : ItemNumber := BitVec.ofNat 16 (0x0500 + 8 * n.val + 6)
       let y := s.lane n
       (y.records = [] → reads num 0) ∧
       (∀ r rest, y.records = r :: rest →
         ((∀ p o, y.state ≠ .waitRecord p o) → reads num (recordWord r rest.length)) ∧
         (∀ p o, y.state = .waitRecord p o → reads num (recordWord r (rest.length + 1))))) ∧
    (arg ≠ 0 → ∃ t, exec (.snapshot m arg) s = .next t ∧ ReadFrame a t a 0x03 arg .badValue 0) ∧
    (arg = 0 → (∀ k, (s.tgt k).stack.length ≤ 8 ∧ (s.tgt k).urgent.length ≤ 4) →
      ∃ (t : State) (snap : Snapshot), exec (.snapshot m arg) s = .next t ∧
        ReadFrame a t { a with svc := { a.svc with snap := snap } } 0x03 arg .ok 0 ∧ snap.seq = s.svc.snap.seq + 1 ∧
        (∀ (i : SourceId) (j : Fin 4), j.val = i.val / 10 →
          snap.src[j.val].extractLsb' (3 * (i.val % 10)) 3 = (s.src i).state.code) ∧
        (∀ k : TargetId,
          let w := snap.tgt[k.val]
          w.extractLsb' 0 5 = (s.tgt k).cpl ∧ (w.extractLsb' 5 4).toNat = (s.tgt k).stack.length ∧
            w.extractLsb' 9 5 = s.offerLevel k ∧ (w.extractLsb' 14 3).toNat = (s.tgt k).urgent.length ∧
            w.extractLsb' 17 2 = (s.restart k).state.code))

/-- WRITE's checks (R26) and the alert mask; HOLD; ALERT_CLEAR; an unknown code, which changes only the posted record and
POSTED_REFUSED (R21); an aborted frame, which only counts (R24). What the service port does when it looks at SVC_SEL,
SVC_CLK and SVC_DIN (R19): a frame begins with the alert summary of that moment (R20), a rising edge completes a bit, the
24th forms the status byte of a write-type or unknown frame (R22), after the 64th nothing is sampled (R25), a release ends
the frame and the wait after RESET_N, after the bit and the command of the same instant (R152), and calls for an abort
count before bit 64 (R24); while RESET_N is low nothing happens (R155). That an edge of SVC_CLK seen with the assertion of
SVC_SEL completes the frame's first bit is log 20's. The command of each code (R21). In the wait of R19 no command
executes and no abort is counted. A known code as BAD_COMMAND's operand is not well formed (log 16); a row that comes
without its bits on the pins is a frame of its own, and ABORTED_FRAME without a release seen ends the frame in progress
(log 11). -/
def Obligations.ServiceWritesAndAborts : Prop :=
  (∀ s : State, s.inReset = true → s.look = s) ∧
  (∀ s : State, s.inReset = false →
    let v := s.svc
    let p := s.pins
    let rises := p.svcClk = true ∧ v.clk = false
    (v.sel = false → p.svcSel = false → s.look = { s with svc := { v with clk := p.svcClk } }) ∧
    (v.sel = false → p.svcSel = true → ¬ rises →
      s.look = { s with svc := { v with
        sel := true, clk := p.svcClk, frame := some ⟨[], false, s.alertSummary, none, 0⟩ } }) ∧
    (v.sel = false → p.svcSel = true → rises →
      s.look = { s with svc := { v with
        sel := true, clk := true, frame := some ⟨[p.svcDin], false, s.alertSummary, none, 0⟩ } }) ∧
    (v.sel = true → p.svcSel = true → ¬ rises → s.look = { s with svc := { v with clk := p.svcClk } }) ∧
    (v.sel = true → p.svcSel = false → ¬ rises →
      ((∀ f, v.frame = some f → ¬ f.complete) → s.look = { s with svc := { v with
        sel := false, clk := p.svcClk, waitRelease := false, frame := none, aborts := v.abortsAfter v.frame } }) ∧
      (∀ f, v.frame = some f → f.complete → s.look = { s with svc := { v with clk := p.svcClk } })) ∧
    (v.sel = true → rises → ∀ f, v.frame = some f →
      let g := f.withBit p.svcDin (alertBit v.alert ||| 0x40 ||| v.posted.result.setWidth 8)
      (p.svcSel = true ∨ g.complete → s.look = { s with svc := { v with clk := true, frame := some g } }) ∧
      (p.svcSel = false → ¬ g.complete → s.look = { s with svc := { v with
        sel := false, clk := true, waitRelease := false, frame := none, aborts := v.abortsAfter (some g) } })) ∧
    (v.sel = true → rises → v.frame = none →
      s.look = { s with svc := { v with
        sel := p.svcSel, clk := true, waitRelease := v.waitRelease && p.svcSel } })) ∧
  (∀ (m : Moment) (arg : BitVec 16) (data : Word),
    commandOf m 0x00 arg data = .status m arg ∧ commandOf m 0x01 arg data = .read m arg ∧
    commandOf m 0x02 arg data = .pop m arg ∧ commandOf m 0x03 arg data = .snapshot m arg ∧
    commandOf m 0x10 arg data = .write m arg data ∧ commandOf m 0x11 arg data = .push m arg data ∧
    commandOf m 0x20 arg data = .seizeLine m arg data ∧ commandOf m 0x21 arg data = .yieldLine m arg data ∧
    commandOf m 0x30 arg data = .ring m arg data ∧ commandOf m 0x31 arg data = .restart m arg data ∧
    commandOf m 0x32 arg data = .releaseTarget m arg data ∧ commandOf m 0x33 arg data = .hold m arg data ∧
    commandOf m 0x40 arg data = .alertClear m arg data ∧ commandOf m 0x7F arg data = .clearAll m arg data ∧
    ∀ code, code ∉ knownCodes → commandOf m code arg data = .badCommand m code arg data) ∧
  (∀ (m : Moment) (code : Byte) (arg : BitVec 16) (data : Word) (s : State), s.inReset = false →
    (s.arrive m).svc.waitRelease = true →
      exec (commandOf m code arg data) s = .next (endOfStep (s.enter m)) ∧
      exec (.abortedFrame m) s = .next (endOfStep (s.enter m))) ∧
  ∀ (m : Moment) (s : State) (arg : BitVec 16) (k : TargetId) (code : Byte) (data : Word),
    let x := s.enter m
    let a := s.arrive m
    (s.svcFree m →
      (decodeItem arg = none → ∃ t, exec (.write m arg data) s = .next t ∧ WriteFrame a t a .noItem 0x10 arg data) ∧
      (∀ it, decodeItem arg = some it →
        (svcAccess it = .none →
          ∃ t, exec (.write m arg data) s = .next t ∧ WriteFrame a t a .notPermitted 0x10 arg data) ∧
        (svcAccess it = .read →
          ∃ t, exec (.write m arg data) s = .next t ∧ WriteFrame a t a .readOnly 0x10 arg data) ∧
        (svcAccess it = .readWrite → s.badValue it data = true →
          ∃ t, exec (.write m arg data) s = .next t ∧ WriteFrame a t a .badValue 0x10 arg data)) ∧
      (∃ t, exec (.write m 0x0901 data) s = .next t ∧
        WriteFrame a t { a with svc := { a.svc with mask := data.extractLsb' 0 12 } } .ok 0x10 0x0901 data) ∧
      (∀ h : Bool, arg.toNat = (if h then 256 else 0) + k.val →
        ∃ t, exec (.hold m arg data) s = .next t ∧
          WriteFrame a t (a.setTgt k { s.tgt k with hold := h }) .ok 0x33 arg data) ∧
      (4 ≤ arg.toNat % 256 ∨ 512 ≤ arg.toNat →
        ∃ t, exec (.hold m arg data) s = .next t ∧ WriteFrame a t a .badValue 0x33 arg data) ∧
      (arg = 0 →
        ∃ t, exec (.alertClear m arg data) s = .next t ∧
          WriteFrame a t
            { a with svc := { a.svc with sticky := s.svc.sticky &&& ~~~(data.extractLsb' 0 8) } } .ok 0x40 arg data) ∧
      (arg ≠ 0 → ∃ t, exec (.alertClear m arg data) s = .next t ∧ WriteFrame a t a .badValue 0x40 arg data) ∧
      (code ∉ knownCodes →
        ∃ t, exec (.badCommand m code arg data) s = .next t ∧ WriteFrame a t a .badCommand code arg data)) ∧
    (s.svcFree m →
      exec (.abortedFrame m) s =
        .next (endOfStep { x with svc := { x.svc with
          frame := if x.svc.aborts = 0 then none else x.svc.frame
          aborts := x.svc.aborts - 1
          abortCount := if s.svc.abortCount = 255 then 255 else s.svc.abortCount + 1 } }))

/-! ### CLEAR_ALL -/

/-- CLEAR_ALL from either port (R156, R18, R36): the whole CLEAR_ALL column of the matrix, and everything the column
keeps; a held request is refused CLEARED, uncounted; the host write needs HPRIV; the service command posts its own record
and needs argument 0. -/
def Obligations.ClearAllSetsItsColumn : Prop :=
  ∀ (m : Moment) (s : State) (arg : BitVec 16) (data : Word),
    let x := s.enter m
    let a := s.arrive m
    (s.hostFree →
      (∃ t, exec (.hubClearAll m true data) s = .next t ∧ ClearedColumn x t ∧ t.svc.posted = ⟨0, 0, 0⟩ ∧
        t.svc.frame = x.svc.frame ∧ t.host.hdone = m.pins.hreq ∧ t.host.hrefuse = false ∧ t.host.hdata = 0 ∧
        t.host.phase = if m.pins.hreq then .completed else .idle) ∧
      exec (.hubClearAll m false data) s = .next (endOfStep (x.hostRefused 0x0005 .protection true false))) ∧
    (s.svcFree m →
      (arg = 0 →
        ∃ t, exec (.clearAll m arg data) s = .next t ∧ ClearedColumn a t ∧ t.svc.posted = ⟨0, 0x7F, 0⟩ ∧
          (s.heldRequest ≠ none → t.host.hdone = false ∧ t.host.hrefuse = m.pins.hreq ∧ t.host.hdata = 14 ∧
            t.host.phase = if m.pins.hreq then .completed else .idle) ∧
          (s.heldRequest = none → t.host.phase = a.host.phase ∧ t.host.hdone = a.host.hdone ∧
            t.host.hrefuse = a.host.hrefuse ∧ t.host.hdata = a.host.hdata)) ∧
      (arg ≠ 0 → ∃ t, exec (.clearAll m arg data) s = .next t ∧ WriteFrame a t a .badValue 0x7F arg data))

/-! ### What every step keeps -/

/-- Every step keeps the host bus protocol (R1), the canonical form of staging memory (R116; the form is the model's,
log 17) and the bounds of the tick base and the timers (R132, R133). -/
def Obligations.StepsKeepTheHostBusStagingAndTimers : Prop :=
  ∀ s t : State, step s = .next t →
    (HostInv s → HostInv t) ∧ (StagingInv s → StagingInv t) ∧ (TimerInv s → TimerInv t)

/-- Every step keeps what spec/05 and spec/06 say of a line and what R118 says of a lane; and a hub whose lanes are as
R118 says never stops: no step faults and none is refused. -/
def Obligations.StepsKeepLinesAndLanesAndNeverStop : Prop :=
  (∀ s t : State, step s = .next t → (LineInv s → LineInv t) ∧ (LaneInv s → LaneInv t)) ∧
  (∀ s : State, LaneInv s → ∃ t, step s = .next t)

/-- Every step keeps what R58, R76 and spec/03 say of service stacks, urgent queues and source states: among them, that a
source is in at most one stack or urgent queue, exactly as its state says. -/
def Obligations.StepsKeepSourcesAndTargetsConsistent : Prop :=
  ∀ s t : State, EventInv s → step s = .next t → EventInv t

/-- After every step the inputs, the outputs of the targets and SVC_ALERT are those of the state the step left, and no
enabled LEVEL source out of service disagrees with its input (R39, R47, R62, R143, R31, R151). -/
def Obligations.EveryStepLeavesTheHubSettled : Prop :=
  ∀ s t : State, Settled s → step s = .next t → Settled t

/-- Only named commands reach these settings, resets and CLEAR_ALL apart: the hold (R75), the owner and the seize lock
(R98, R100), staging memory (R116), the take counts (R64), the snapshot (R35), the abort count (R24). -/
def Obligations.SettingsChangeOnlyByTheirCommands : Prop :=
  ∀ (c : Instr) (s t : State), exec c s = .next t → c.isReset = false → (∀ m arg data, c ≠ .clearAll m arg data) →
    (∀ data, c.access ≠ some (true, true, 0x0005, data)) →
      (∀ k, (t.tgt k).hold ≠ (s.tgt k).hold → ∃ m arg data, c = .hold m arg data ∧ arg.toNat % 256 = k.val) ∧
      (∀ l, (t.line l).owner ≠ (s.line l).owner →
        (∃ m raw, c = .receiverCompletion m l raw) ∨ (∃ m arg data, c = .seizeLine m arg data) ∨
          (∃ m arg data, c = .yieldLine m arg data) ∨
          ∃ priv num data, c.access = some (true, priv, num, data) ∧
            (num.toNat = 256 * l.unit + 0x0F ∨ (num.toNat = 256 * l.unit + 0x10 ∧ priv = true))) ∧
      (∀ l, (t.line l).lock ≠ (s.line l).lock →
        ∃ num data, c.access = some (true, true, num, data) ∧
          (num.toNat = 256 * l.unit + 0x10 ∨ num.toNat = 256 * l.unit + 0x11)) ∧
      (t.staging ≠ s.staging →
        (∃ m l, c = .receiveMove m l) ∨
          ∃ priv num data, c.access = some (true, priv, num, data) ∧ 0x0A00 ≤ num.toNat ∧ num.toNat < 0x0E00) ∧
      (∀ k, (t.tgt k).takes ≠ (s.tgt k).takes →
        ∃ priv num data, c.access = some (false, priv, num, data) ∧ num.toNat = 0x0200 + 16 * k.val) ∧
      (t.svc.snap ≠ s.svc.snap → ∃ m, c = .snapshot m 0) ∧
      (t.svc.abortCount ≠ s.svc.abortCount → ∃ m, c = .abortedFrame m)
end

