-- ==== Sys2Proof/Laws/State.lean ====
section
/-! SUPPORT. One lemma per field and per update of the state, and reading back what a named operation replaced. -/

namespace Sys2Proof.Machine

open Sys2Proof

variable (s : State)

/-! ### `State.setSrc` -/

@[simp] theorem State.setSrc_now (i : SourceId) (x : Source) : (s.setSrc i x).now = s.now := rfl
@[simp] theorem State.setSrc_inReset (i : SourceId) (x : Source) : (s.setSrc i x).inReset = s.inReset := rfl
@[simp] theorem State.setSrc_pins (i : SourceId) (x : Source) : (s.setSrc i x).pins = s.pins := rfl
@[simp] theorem State.setSrc_sched (i : SourceId) (x : Source) : (s.setSrc i x).sched = s.sched := rfl
@[simp] theorem State.setSrc_host (i : SourceId) (x : Source) : (s.setSrc i x).host = s.host := rfl
@[simp] theorem State.setSrc_svc (i : SourceId) (x : Source) : (s.setSrc i x).svc = s.svc := rfl
@[simp] theorem State.setSrc_xrSample (i : SourceId) (x : Source) : (s.setSrc i x).xrSample = s.xrSample := rfl
@[simp] theorem State.setSrc_targets (i : SourceId) (x : Source) : (s.setSrc i x).targets = s.targets := rfl
@[simp] theorem State.setSrc_outs (i : SourceId) (x : Source) : (s.setSrc i x).outs = s.outs := rfl
@[simp] theorem State.setSrc_restarts (i : SourceId) (x : Source) : (s.setSrc i x).restarts = s.restarts := rfl
@[simp] theorem State.setSrc_rsc (i : SourceId) (x : Source) : (s.setSrc i x).rsc = s.rsc := rfl
@[simp] theorem State.setSrc_lineA (i : SourceId) (x : Source) : (s.setSrc i x).lineA = s.lineA := rfl
@[simp] theorem State.setSrc_lineB (i : SourceId) (x : Source) : (s.setSrc i x).lineB = s.lineB := rfl
@[simp] theorem State.setSrc_lanes (i : SourceId) (x : Source) : (s.setSrc i x).lanes = s.lanes := rfl
@[simp] theorem State.setSrc_staging (i : SourceId) (x : Source) : (s.setSrc i x).staging = s.staging := rfl
@[simp] theorem State.setSrc_tick (i : SourceId) (x : Source) : (s.setSrc i x).tick = s.tick := rfl
@[simp] theorem State.setSrc_timers (i : SourceId) (x : Source) : (s.setSrc i x).timers = s.timers := rfl
@[simp] theorem State.setSrc_raised (i : SourceId) (x : Source) : (s.setSrc i x).raised = s.raised := rfl
@[simp] theorem State.setSrc_pending (i : SourceId) (x : Source) : (s.setSrc i x).pending = s.pending := rfl
@[simp] theorem State.setSrc_coming (i : SourceId) (x : Source) : (s.setSrc i x).coming = s.coming := rfl

/-! ### `State.setSrcState` -/

@[simp] theorem State.setSrcState_now (i : SourceId) (x : SourceState) : (s.setSrcState i x).now = s.now := rfl
@[simp] theorem State.setSrcState_inReset (i : SourceId) (x : SourceState) : (s.setSrcState i x).inReset = s.inReset := rfl
@[simp] theorem State.setSrcState_pins (i : SourceId) (x : SourceState) : (s.setSrcState i x).pins = s.pins := rfl
@[simp] theorem State.setSrcState_sched (i : SourceId) (x : SourceState) : (s.setSrcState i x).sched = s.sched := rfl
@[simp] theorem State.setSrcState_host (i : SourceId) (x : SourceState) : (s.setSrcState i x).host = s.host := rfl
@[simp] theorem State.setSrcState_svc (i : SourceId) (x : SourceState) : (s.setSrcState i x).svc = s.svc := rfl
@[simp] theorem State.setSrcState_xrSample (i : SourceId) (x : SourceState) : (s.setSrcState i x).xrSample = s.xrSample := rfl
@[simp] theorem State.setSrcState_targets (i : SourceId) (x : SourceState) : (s.setSrcState i x).targets = s.targets := rfl
@[simp] theorem State.setSrcState_outs (i : SourceId) (x : SourceState) : (s.setSrcState i x).outs = s.outs := rfl
@[simp] theorem State.setSrcState_restarts (i : SourceId) (x : SourceState) : (s.setSrcState i x).restarts = s.restarts := rfl
@[simp] theorem State.setSrcState_rsc (i : SourceId) (x : SourceState) : (s.setSrcState i x).rsc = s.rsc := rfl
@[simp] theorem State.setSrcState_lineA (i : SourceId) (x : SourceState) : (s.setSrcState i x).lineA = s.lineA := rfl
@[simp] theorem State.setSrcState_lineB (i : SourceId) (x : SourceState) : (s.setSrcState i x).lineB = s.lineB := rfl
@[simp] theorem State.setSrcState_lanes (i : SourceId) (x : SourceState) : (s.setSrcState i x).lanes = s.lanes := rfl
@[simp] theorem State.setSrcState_staging (i : SourceId) (x : SourceState) : (s.setSrcState i x).staging = s.staging := rfl
@[simp] theorem State.setSrcState_tick (i : SourceId) (x : SourceState) : (s.setSrcState i x).tick = s.tick := rfl
@[simp] theorem State.setSrcState_timers (i : SourceId) (x : SourceState) : (s.setSrcState i x).timers = s.timers := rfl
@[simp] theorem State.setSrcState_raised (i : SourceId) (x : SourceState) : (s.setSrcState i x).raised = s.raised := rfl
@[simp] theorem State.setSrcState_pending (i : SourceId) (x : SourceState) : (s.setSrcState i x).pending = s.pending := rfl
@[simp] theorem State.setSrcState_coming (i : SourceId) (x : SourceState) : (s.setSrcState i x).coming = s.coming := rfl

/-! ### `State.setTgt` -/

@[simp] theorem State.setTgt_now (i : TargetId) (x : Target) : (s.setTgt i x).now = s.now := rfl
@[simp] theorem State.setTgt_inReset (i : TargetId) (x : Target) : (s.setTgt i x).inReset = s.inReset := rfl
@[simp] theorem State.setTgt_pins (i : TargetId) (x : Target) : (s.setTgt i x).pins = s.pins := rfl
@[simp] theorem State.setTgt_sched (i : TargetId) (x : Target) : (s.setTgt i x).sched = s.sched := rfl
@[simp] theorem State.setTgt_host (i : TargetId) (x : Target) : (s.setTgt i x).host = s.host := rfl
@[simp] theorem State.setTgt_svc (i : TargetId) (x : Target) : (s.setTgt i x).svc = s.svc := rfl
@[simp] theorem State.setTgt_sources (i : TargetId) (x : Target) : (s.setTgt i x).sources = s.sources := rfl
@[simp] theorem State.setTgt_xrSample (i : TargetId) (x : Target) : (s.setTgt i x).xrSample = s.xrSample := rfl
@[simp] theorem State.setTgt_outs (i : TargetId) (x : Target) : (s.setTgt i x).outs = s.outs := rfl
@[simp] theorem State.setTgt_restarts (i : TargetId) (x : Target) : (s.setTgt i x).restarts = s.restarts := rfl
@[simp] theorem State.setTgt_rsc (i : TargetId) (x : Target) : (s.setTgt i x).rsc = s.rsc := rfl
@[simp] theorem State.setTgt_lineA (i : TargetId) (x : Target) : (s.setTgt i x).lineA = s.lineA := rfl
@[simp] theorem State.setTgt_lineB (i : TargetId) (x : Target) : (s.setTgt i x).lineB = s.lineB := rfl
@[simp] theorem State.setTgt_lanes (i : TargetId) (x : Target) : (s.setTgt i x).lanes = s.lanes := rfl
@[simp] theorem State.setTgt_staging (i : TargetId) (x : Target) : (s.setTgt i x).staging = s.staging := rfl
@[simp] theorem State.setTgt_tick (i : TargetId) (x : Target) : (s.setTgt i x).tick = s.tick := rfl
@[simp] theorem State.setTgt_timers (i : TargetId) (x : Target) : (s.setTgt i x).timers = s.timers := rfl
@[simp] theorem State.setTgt_raised (i : TargetId) (x : Target) : (s.setTgt i x).raised = s.raised := rfl
@[simp] theorem State.setTgt_pending (i : TargetId) (x : Target) : (s.setTgt i x).pending = s.pending := rfl
@[simp] theorem State.setTgt_coming (i : TargetId) (x : Target) : (s.setTgt i x).coming = s.coming := rfl

/-! ### `State.setRestart` -/

@[simp] theorem State.setRestart_now (i : TargetId) (x : Restart) : (s.setRestart i x).now = s.now := rfl
@[simp] theorem State.setRestart_inReset (i : TargetId) (x : Restart) : (s.setRestart i x).inReset = s.inReset := rfl
@[simp] theorem State.setRestart_pins (i : TargetId) (x : Restart) : (s.setRestart i x).pins = s.pins := rfl
@[simp] theorem State.setRestart_sched (i : TargetId) (x : Restart) : (s.setRestart i x).sched = s.sched := rfl
@[simp] theorem State.setRestart_host (i : TargetId) (x : Restart) : (s.setRestart i x).host = s.host := rfl
@[simp] theorem State.setRestart_svc (i : TargetId) (x : Restart) : (s.setRestart i x).svc = s.svc := rfl
@[simp] theorem State.setRestart_sources (i : TargetId) (x : Restart) : (s.setRestart i x).sources = s.sources := rfl
@[simp] theorem State.setRestart_xrSample (i : TargetId) (x : Restart) : (s.setRestart i x).xrSample = s.xrSample := rfl
@[simp] theorem State.setRestart_targets (i : TargetId) (x : Restart) : (s.setRestart i x).targets = s.targets := rfl
@[simp] theorem State.setRestart_outs (i : TargetId) (x : Restart) : (s.setRestart i x).outs = s.outs := rfl
@[simp] theorem State.setRestart_rsc (i : TargetId) (x : Restart) : (s.setRestart i x).rsc = s.rsc := rfl
@[simp] theorem State.setRestart_lineA (i : TargetId) (x : Restart) : (s.setRestart i x).lineA = s.lineA := rfl
@[simp] theorem State.setRestart_lineB (i : TargetId) (x : Restart) : (s.setRestart i x).lineB = s.lineB := rfl
@[simp] theorem State.setRestart_lanes (i : TargetId) (x : Restart) : (s.setRestart i x).lanes = s.lanes := rfl
@[simp] theorem State.setRestart_staging (i : TargetId) (x : Restart) : (s.setRestart i x).staging = s.staging := rfl
@[simp] theorem State.setRestart_tick (i : TargetId) (x : Restart) : (s.setRestart i x).tick = s.tick := rfl
@[simp] theorem State.setRestart_timers (i : TargetId) (x : Restart) : (s.setRestart i x).timers = s.timers := rfl
@[simp] theorem State.setRestart_raised (i : TargetId) (x : Restart) : (s.setRestart i x).raised = s.raised := rfl
@[simp] theorem State.setRestart_pending (i : TargetId) (x : Restart) : (s.setRestart i x).pending = s.pending := rfl
@[simp] theorem State.setRestart_coming (i : TargetId) (x : Restart) : (s.setRestart i x).coming = s.coming := rfl

/-! ### `State.setLane` -/

@[simp] theorem State.setLane_now (i : LaneId) (x : Lane) : (s.setLane i x).now = s.now := rfl
@[simp] theorem State.setLane_inReset (i : LaneId) (x : Lane) : (s.setLane i x).inReset = s.inReset := rfl
@[simp] theorem State.setLane_pins (i : LaneId) (x : Lane) : (s.setLane i x).pins = s.pins := rfl
@[simp] theorem State.setLane_sched (i : LaneId) (x : Lane) : (s.setLane i x).sched = s.sched := rfl
@[simp] theorem State.setLane_host (i : LaneId) (x : Lane) : (s.setLane i x).host = s.host := rfl
@[simp] theorem State.setLane_svc (i : LaneId) (x : Lane) : (s.setLane i x).svc = s.svc := rfl
@[simp] theorem State.setLane_sources (i : LaneId) (x : Lane) : (s.setLane i x).sources = s.sources := rfl
@[simp] theorem State.setLane_xrSample (i : LaneId) (x : Lane) : (s.setLane i x).xrSample = s.xrSample := rfl
@[simp] theorem State.setLane_targets (i : LaneId) (x : Lane) : (s.setLane i x).targets = s.targets := rfl
@[simp] theorem State.setLane_outs (i : LaneId) (x : Lane) : (s.setLane i x).outs = s.outs := rfl
@[simp] theorem State.setLane_restarts (i : LaneId) (x : Lane) : (s.setLane i x).restarts = s.restarts := rfl
@[simp] theorem State.setLane_rsc (i : LaneId) (x : Lane) : (s.setLane i x).rsc = s.rsc := rfl
@[simp] theorem State.setLane_lineA (i : LaneId) (x : Lane) : (s.setLane i x).lineA = s.lineA := rfl
@[simp] theorem State.setLane_lineB (i : LaneId) (x : Lane) : (s.setLane i x).lineB = s.lineB := rfl
@[simp] theorem State.setLane_staging (i : LaneId) (x : Lane) : (s.setLane i x).staging = s.staging := rfl
@[simp] theorem State.setLane_tick (i : LaneId) (x : Lane) : (s.setLane i x).tick = s.tick := rfl
@[simp] theorem State.setLane_timers (i : LaneId) (x : Lane) : (s.setLane i x).timers = s.timers := rfl
@[simp] theorem State.setLane_raised (i : LaneId) (x : Lane) : (s.setLane i x).raised = s.raised := rfl
@[simp] theorem State.setLane_pending (i : LaneId) (x : Lane) : (s.setLane i x).pending = s.pending := rfl
@[simp] theorem State.setLane_coming (i : LaneId) (x : Lane) : (s.setLane i x).coming = s.coming := rfl

/-! ### `State.setTimer` -/

@[simp] theorem State.setTimer_now (i : TimerId) (x : Timer) : (s.setTimer i x).now = s.now := rfl
@[simp] theorem State.setTimer_inReset (i : TimerId) (x : Timer) : (s.setTimer i x).inReset = s.inReset := rfl
@[simp] theorem State.setTimer_pins (i : TimerId) (x : Timer) : (s.setTimer i x).pins = s.pins := rfl
@[simp] theorem State.setTimer_sched (i : TimerId) (x : Timer) : (s.setTimer i x).sched = s.sched := rfl
@[simp] theorem State.setTimer_host (i : TimerId) (x : Timer) : (s.setTimer i x).host = s.host := rfl
@[simp] theorem State.setTimer_svc (i : TimerId) (x : Timer) : (s.setTimer i x).svc = s.svc := rfl
@[simp] theorem State.setTimer_sources (i : TimerId) (x : Timer) : (s.setTimer i x).sources = s.sources := rfl
@[simp] theorem State.setTimer_xrSample (i : TimerId) (x : Timer) : (s.setTimer i x).xrSample = s.xrSample := rfl
@[simp] theorem State.setTimer_targets (i : TimerId) (x : Timer) : (s.setTimer i x).targets = s.targets := rfl
@[simp] theorem State.setTimer_outs (i : TimerId) (x : Timer) : (s.setTimer i x).outs = s.outs := rfl
@[simp] theorem State.setTimer_restarts (i : TimerId) (x : Timer) : (s.setTimer i x).restarts = s.restarts := rfl
@[simp] theorem State.setTimer_rsc (i : TimerId) (x : Timer) : (s.setTimer i x).rsc = s.rsc := rfl
@[simp] theorem State.setTimer_lineA (i : TimerId) (x : Timer) : (s.setTimer i x).lineA = s.lineA := rfl
@[simp] theorem State.setTimer_lineB (i : TimerId) (x : Timer) : (s.setTimer i x).lineB = s.lineB := rfl
@[simp] theorem State.setTimer_lanes (i : TimerId) (x : Timer) : (s.setTimer i x).lanes = s.lanes := rfl
@[simp] theorem State.setTimer_staging (i : TimerId) (x : Timer) : (s.setTimer i x).staging = s.staging := rfl
@[simp] theorem State.setTimer_tick (i : TimerId) (x : Timer) : (s.setTimer i x).tick = s.tick := rfl
@[simp] theorem State.setTimer_raised (i : TimerId) (x : Timer) : (s.setTimer i x).raised = s.raised := rfl
@[simp] theorem State.setTimer_pending (i : TimerId) (x : Timer) : (s.setTimer i x).pending = s.pending := rfl
@[simp] theorem State.setTimer_coming (i : TimerId) (x : Timer) : (s.setTimer i x).coming = s.coming := rfl

/-! ### `State.setBell` -/

@[simp] theorem State.setBell_now (i : TargetId) (x : Doorbell) : (s.setBell i x).now = s.now := rfl
@[simp] theorem State.setBell_inReset (i : TargetId) (x : Doorbell) : (s.setBell i x).inReset = s.inReset := rfl
@[simp] theorem State.setBell_pins (i : TargetId) (x : Doorbell) : (s.setBell i x).pins = s.pins := rfl
@[simp] theorem State.setBell_sched (i : TargetId) (x : Doorbell) : (s.setBell i x).sched = s.sched := rfl
@[simp] theorem State.setBell_host (i : TargetId) (x : Doorbell) : (s.setBell i x).host = s.host := rfl
@[simp] theorem State.setBell_sources (i : TargetId) (x : Doorbell) : (s.setBell i x).sources = s.sources := rfl
@[simp] theorem State.setBell_xrSample (i : TargetId) (x : Doorbell) : (s.setBell i x).xrSample = s.xrSample := rfl
@[simp] theorem State.setBell_targets (i : TargetId) (x : Doorbell) : (s.setBell i x).targets = s.targets := rfl
@[simp] theorem State.setBell_outs (i : TargetId) (x : Doorbell) : (s.setBell i x).outs = s.outs := rfl
@[simp] theorem State.setBell_restarts (i : TargetId) (x : Doorbell) : (s.setBell i x).restarts = s.restarts := rfl
@[simp] theorem State.setBell_rsc (i : TargetId) (x : Doorbell) : (s.setBell i x).rsc = s.rsc := rfl
@[simp] theorem State.setBell_lineA (i : TargetId) (x : Doorbell) : (s.setBell i x).lineA = s.lineA := rfl
@[simp] theorem State.setBell_lineB (i : TargetId) (x : Doorbell) : (s.setBell i x).lineB = s.lineB := rfl
@[simp] theorem State.setBell_lanes (i : TargetId) (x : Doorbell) : (s.setBell i x).lanes = s.lanes := rfl
@[simp] theorem State.setBell_staging (i : TargetId) (x : Doorbell) : (s.setBell i x).staging = s.staging := rfl
@[simp] theorem State.setBell_tick (i : TargetId) (x : Doorbell) : (s.setBell i x).tick = s.tick := rfl
@[simp] theorem State.setBell_timers (i : TargetId) (x : Doorbell) : (s.setBell i x).timers = s.timers := rfl
@[simp] theorem State.setBell_raised (i : TargetId) (x : Doorbell) : (s.setBell i x).raised = s.raised := rfl
@[simp] theorem State.setBell_pending (i : TargetId) (x : Doorbell) : (s.setBell i x).pending = s.pending := rfl
@[simp] theorem State.setBell_coming (i : TargetId) (x : Doorbell) : (s.setBell i x).coming = s.coming := rfl

/-! ### `State.raise` -/

@[simp] theorem State.raise_now (i : SourceId) : (s.raise i).now = s.now := rfl
@[simp] theorem State.raise_inReset (i : SourceId) : (s.raise i).inReset = s.inReset := rfl
@[simp] theorem State.raise_pins (i : SourceId) : (s.raise i).pins = s.pins := rfl
@[simp] theorem State.raise_sched (i : SourceId) : (s.raise i).sched = s.sched := rfl
@[simp] theorem State.raise_host (i : SourceId) : (s.raise i).host = s.host := rfl
@[simp] theorem State.raise_svc (i : SourceId) : (s.raise i).svc = s.svc := rfl
@[simp] theorem State.raise_sources (i : SourceId) : (s.raise i).sources = s.sources := rfl
@[simp] theorem State.raise_xrSample (i : SourceId) : (s.raise i).xrSample = s.xrSample := rfl
@[simp] theorem State.raise_targets (i : SourceId) : (s.raise i).targets = s.targets := rfl
@[simp] theorem State.raise_outs (i : SourceId) : (s.raise i).outs = s.outs := rfl
@[simp] theorem State.raise_restarts (i : SourceId) : (s.raise i).restarts = s.restarts := rfl
@[simp] theorem State.raise_rsc (i : SourceId) : (s.raise i).rsc = s.rsc := rfl
@[simp] theorem State.raise_lineA (i : SourceId) : (s.raise i).lineA = s.lineA := rfl
@[simp] theorem State.raise_lineB (i : SourceId) : (s.raise i).lineB = s.lineB := rfl
@[simp] theorem State.raise_lanes (i : SourceId) : (s.raise i).lanes = s.lanes := rfl
@[simp] theorem State.raise_staging (i : SourceId) : (s.raise i).staging = s.staging := rfl
@[simp] theorem State.raise_tick (i : SourceId) : (s.raise i).tick = s.tick := rfl
@[simp] theorem State.raise_timers (i : SourceId) : (s.raise i).timers = s.timers := rfl
@[simp] theorem State.raise_pending (i : SourceId) : (s.raise i).pending = s.pending := rfl
@[simp] theorem State.raise_coming (i : SourceId) : (s.raise i).coming = s.coming := rfl

/-! ### `State.setSticky` -/

@[simp] theorem State.setSticky_now (b : Nat) : (s.setSticky b).now = s.now := rfl
@[simp] theorem State.setSticky_inReset (b : Nat) : (s.setSticky b).inReset = s.inReset := rfl
@[simp] theorem State.setSticky_pins (b : Nat) : (s.setSticky b).pins = s.pins := rfl
@[simp] theorem State.setSticky_sched (b : Nat) : (s.setSticky b).sched = s.sched := rfl
@[simp] theorem State.setSticky_host (b : Nat) : (s.setSticky b).host = s.host := rfl
@[simp] theorem State.setSticky_sources (b : Nat) : (s.setSticky b).sources = s.sources := rfl
@[simp] theorem State.setSticky_xrSample (b : Nat) : (s.setSticky b).xrSample = s.xrSample := rfl
@[simp] theorem State.setSticky_targets (b : Nat) : (s.setSticky b).targets = s.targets := rfl
@[simp] theorem State.setSticky_outs (b : Nat) : (s.setSticky b).outs = s.outs := rfl
@[simp] theorem State.setSticky_restarts (b : Nat) : (s.setSticky b).restarts = s.restarts := rfl
@[simp] theorem State.setSticky_rsc (b : Nat) : (s.setSticky b).rsc = s.rsc := rfl
@[simp] theorem State.setSticky_lineA (b : Nat) : (s.setSticky b).lineA = s.lineA := rfl
@[simp] theorem State.setSticky_lineB (b : Nat) : (s.setSticky b).lineB = s.lineB := rfl
@[simp] theorem State.setSticky_lanes (b : Nat) : (s.setSticky b).lanes = s.lanes := rfl
@[simp] theorem State.setSticky_staging (b : Nat) : (s.setSticky b).staging = s.staging := rfl
@[simp] theorem State.setSticky_tick (b : Nat) : (s.setSticky b).tick = s.tick := rfl
@[simp] theorem State.setSticky_timers (b : Nat) : (s.setSticky b).timers = s.timers := rfl
@[simp] theorem State.setSticky_raised (b : Nat) : (s.setSticky b).raised = s.raised := rfl
@[simp] theorem State.setSticky_pending (b : Nat) : (s.setSticky b).pending = s.pending := rfl
@[simp] theorem State.setSticky_coming (b : Nat) : (s.setSticky b).coming = s.coming := rfl

/-! ### `State.drive` -/

@[simp] theorem State.drive_now (d : Bool) (w : Word) : (s.drive d w).now = s.now := rfl
@[simp] theorem State.drive_inReset (d : Bool) (w : Word) : (s.drive d w).inReset = s.inReset := rfl
@[simp] theorem State.drive_pins (d : Bool) (w : Word) : (s.drive d w).pins = s.pins := rfl
@[simp] theorem State.drive_sched (d : Bool) (w : Word) : (s.drive d w).sched = s.sched := rfl
@[simp] theorem State.drive_svc (d : Bool) (w : Word) : (s.drive d w).svc = s.svc := rfl
@[simp] theorem State.drive_sources (d : Bool) (w : Word) : (s.drive d w).sources = s.sources := rfl
@[simp] theorem State.drive_xrSample (d : Bool) (w : Word) : (s.drive d w).xrSample = s.xrSample := rfl
@[simp] theorem State.drive_targets (d : Bool) (w : Word) : (s.drive d w).targets = s.targets := rfl
@[simp] theorem State.drive_outs (d : Bool) (w : Word) : (s.drive d w).outs = s.outs := rfl
@[simp] theorem State.drive_restarts (d : Bool) (w : Word) : (s.drive d w).restarts = s.restarts := rfl
@[simp] theorem State.drive_rsc (d : Bool) (w : Word) : (s.drive d w).rsc = s.rsc := rfl
@[simp] theorem State.drive_lineA (d : Bool) (w : Word) : (s.drive d w).lineA = s.lineA := rfl
@[simp] theorem State.drive_lineB (d : Bool) (w : Word) : (s.drive d w).lineB = s.lineB := rfl
@[simp] theorem State.drive_lanes (d : Bool) (w : Word) : (s.drive d w).lanes = s.lanes := rfl
@[simp] theorem State.drive_staging (d : Bool) (w : Word) : (s.drive d w).staging = s.staging := rfl
@[simp] theorem State.drive_tick (d : Bool) (w : Word) : (s.drive d w).tick = s.tick := rfl
@[simp] theorem State.drive_timers (d : Bool) (w : Word) : (s.drive d w).timers = s.timers := rfl
@[simp] theorem State.drive_raised (d : Bool) (w : Word) : (s.drive d w).raised = s.raised := rfl
@[simp] theorem State.drive_pending (d : Bool) (w : Word) : (s.drive d w).pending = s.pending := rfl
@[simp] theorem State.drive_coming (d : Bool) (w : Word) : (s.drive d w).coming = s.coming := rfl

/-! ### `State.driveDone` -/

@[simp] theorem State.driveDone_now (w : Word) : (s.driveDone w).now = s.now := rfl
@[simp] theorem State.driveDone_inReset (w : Word) : (s.driveDone w).inReset = s.inReset := rfl
@[simp] theorem State.driveDone_pins (w : Word) : (s.driveDone w).pins = s.pins := rfl
@[simp] theorem State.driveDone_sched (w : Word) : (s.driveDone w).sched = s.sched := rfl
@[simp] theorem State.driveDone_svc (w : Word) : (s.driveDone w).svc = s.svc := rfl
@[simp] theorem State.driveDone_sources (w : Word) : (s.driveDone w).sources = s.sources := rfl
@[simp] theorem State.driveDone_xrSample (w : Word) : (s.driveDone w).xrSample = s.xrSample := rfl
@[simp] theorem State.driveDone_targets (w : Word) : (s.driveDone w).targets = s.targets := rfl
@[simp] theorem State.driveDone_outs (w : Word) : (s.driveDone w).outs = s.outs := rfl
@[simp] theorem State.driveDone_restarts (w : Word) : (s.driveDone w).restarts = s.restarts := rfl
@[simp] theorem State.driveDone_rsc (w : Word) : (s.driveDone w).rsc = s.rsc := rfl
@[simp] theorem State.driveDone_lineA (w : Word) : (s.driveDone w).lineA = s.lineA := rfl
@[simp] theorem State.driveDone_lineB (w : Word) : (s.driveDone w).lineB = s.lineB := rfl
@[simp] theorem State.driveDone_lanes (w : Word) : (s.driveDone w).lanes = s.lanes := rfl
@[simp] theorem State.driveDone_staging (w : Word) : (s.driveDone w).staging = s.staging := rfl
@[simp] theorem State.driveDone_tick (w : Word) : (s.driveDone w).tick = s.tick := rfl
@[simp] theorem State.driveDone_timers (w : Word) : (s.driveDone w).timers = s.timers := rfl
@[simp] theorem State.driveDone_raised (w : Word) : (s.driveDone w).raised = s.raised := rfl
@[simp] theorem State.driveDone_pending (w : Word) : (s.driveDone w).pending = s.pending := rfl
@[simp] theorem State.driveDone_coming (w : Word) : (s.driveDone w).coming = s.coming := rfl

/-! ### `State.driveRefused` -/

@[simp] theorem State.driveRefused_now (r : Reason) : (s.driveRefused r).now = s.now := rfl
@[simp] theorem State.driveRefused_inReset (r : Reason) : (s.driveRefused r).inReset = s.inReset := rfl
@[simp] theorem State.driveRefused_pins (r : Reason) : (s.driveRefused r).pins = s.pins := rfl
@[simp] theorem State.driveRefused_sched (r : Reason) : (s.driveRefused r).sched = s.sched := rfl
@[simp] theorem State.driveRefused_svc (r : Reason) : (s.driveRefused r).svc = s.svc := rfl
@[simp] theorem State.driveRefused_sources (r : Reason) : (s.driveRefused r).sources = s.sources := rfl
@[simp] theorem State.driveRefused_xrSample (r : Reason) : (s.driveRefused r).xrSample = s.xrSample := rfl
@[simp] theorem State.driveRefused_targets (r : Reason) : (s.driveRefused r).targets = s.targets := rfl
@[simp] theorem State.driveRefused_outs (r : Reason) : (s.driveRefused r).outs = s.outs := rfl
@[simp] theorem State.driveRefused_restarts (r : Reason) : (s.driveRefused r).restarts = s.restarts := rfl
@[simp] theorem State.driveRefused_rsc (r : Reason) : (s.driveRefused r).rsc = s.rsc := rfl
@[simp] theorem State.driveRefused_lineA (r : Reason) : (s.driveRefused r).lineA = s.lineA := rfl
@[simp] theorem State.driveRefused_lineB (r : Reason) : (s.driveRefused r).lineB = s.lineB := rfl
@[simp] theorem State.driveRefused_lanes (r : Reason) : (s.driveRefused r).lanes = s.lanes := rfl
@[simp] theorem State.driveRefused_staging (r : Reason) : (s.driveRefused r).staging = s.staging := rfl
@[simp] theorem State.driveRefused_tick (r : Reason) : (s.driveRefused r).tick = s.tick := rfl
@[simp] theorem State.driveRefused_timers (r : Reason) : (s.driveRefused r).timers = s.timers := rfl
@[simp] theorem State.driveRefused_raised (r : Reason) : (s.driveRefused r).raised = s.raised := rfl
@[simp] theorem State.driveRefused_pending (r : Reason) : (s.driveRefused r).pending = s.pending := rfl
@[simp] theorem State.driveRefused_coming (r : Reason) : (s.driveRefused r).coming = s.coming := rfl

/-! ### `State.countFlow` -/

@[simp] theorem State.countFlow_now : (s.countFlow ).now = s.now := rfl
@[simp] theorem State.countFlow_inReset : (s.countFlow ).inReset = s.inReset := rfl
@[simp] theorem State.countFlow_pins : (s.countFlow ).pins = s.pins := rfl
@[simp] theorem State.countFlow_sched : (s.countFlow ).sched = s.sched := rfl
@[simp] theorem State.countFlow_svc : (s.countFlow ).svc = s.svc := rfl
@[simp] theorem State.countFlow_sources : (s.countFlow ).sources = s.sources := rfl
@[simp] theorem State.countFlow_xrSample : (s.countFlow ).xrSample = s.xrSample := rfl
@[simp] theorem State.countFlow_targets : (s.countFlow ).targets = s.targets := rfl
@[simp] theorem State.countFlow_outs : (s.countFlow ).outs = s.outs := rfl
@[simp] theorem State.countFlow_restarts : (s.countFlow ).restarts = s.restarts := rfl
@[simp] theorem State.countFlow_rsc : (s.countFlow ).rsc = s.rsc := rfl
@[simp] theorem State.countFlow_lineA : (s.countFlow ).lineA = s.lineA := rfl
@[simp] theorem State.countFlow_lineB : (s.countFlow ).lineB = s.lineB := rfl
@[simp] theorem State.countFlow_lanes : (s.countFlow ).lanes = s.lanes := rfl
@[simp] theorem State.countFlow_staging : (s.countFlow ).staging = s.staging := rfl
@[simp] theorem State.countFlow_tick : (s.countFlow ).tick = s.tick := rfl
@[simp] theorem State.countFlow_timers : (s.countFlow ).timers = s.timers := rfl
@[simp] theorem State.countFlow_raised : (s.countFlow ).raised = s.raised := rfl
@[simp] theorem State.countFlow_pending : (s.countFlow ).pending = s.pending := rfl
@[simp] theorem State.countFlow_coming : (s.countFlow ).coming = s.coming := rfl

/-! ### `State.withFrame` -/

@[simp] theorem State.withFrame_now (f : Frame) : (s.withFrame f).now = s.now := rfl
@[simp] theorem State.withFrame_inReset (f : Frame) : (s.withFrame f).inReset = s.inReset := rfl
@[simp] theorem State.withFrame_pins (f : Frame) : (s.withFrame f).pins = s.pins := rfl
@[simp] theorem State.withFrame_sched (f : Frame) : (s.withFrame f).sched = s.sched := rfl
@[simp] theorem State.withFrame_host (f : Frame) : (s.withFrame f).host = s.host := rfl
@[simp] theorem State.withFrame_sources (f : Frame) : (s.withFrame f).sources = s.sources := rfl
@[simp] theorem State.withFrame_xrSample (f : Frame) : (s.withFrame f).xrSample = s.xrSample := rfl
@[simp] theorem State.withFrame_targets (f : Frame) : (s.withFrame f).targets = s.targets := rfl
@[simp] theorem State.withFrame_outs (f : Frame) : (s.withFrame f).outs = s.outs := rfl
@[simp] theorem State.withFrame_restarts (f : Frame) : (s.withFrame f).restarts = s.restarts := rfl
@[simp] theorem State.withFrame_rsc (f : Frame) : (s.withFrame f).rsc = s.rsc := rfl
@[simp] theorem State.withFrame_lineA (f : Frame) : (s.withFrame f).lineA = s.lineA := rfl
@[simp] theorem State.withFrame_lineB (f : Frame) : (s.withFrame f).lineB = s.lineB := rfl
@[simp] theorem State.withFrame_lanes (f : Frame) : (s.withFrame f).lanes = s.lanes := rfl
@[simp] theorem State.withFrame_staging (f : Frame) : (s.withFrame f).staging = s.staging := rfl
@[simp] theorem State.withFrame_tick (f : Frame) : (s.withFrame f).tick = s.tick := rfl
@[simp] theorem State.withFrame_timers (f : Frame) : (s.withFrame f).timers = s.timers := rfl
@[simp] theorem State.withFrame_raised (f : Frame) : (s.withFrame f).raised = s.raised := rfl
@[simp] theorem State.withFrame_pending (f : Frame) : (s.withFrame f).pending = s.pending := rfl
@[simp] theorem State.withFrame_coming (f : Frame) : (s.withFrame f).coming = s.coming := rfl

/-! ### `State.setFrame` -/

@[simp] theorem State.setFrame_now (f : Frame) : (s.setFrame f).now = s.now := rfl
@[simp] theorem State.setFrame_inReset (f : Frame) : (s.setFrame f).inReset = s.inReset := rfl
@[simp] theorem State.setFrame_pins (f : Frame) : (s.setFrame f).pins = s.pins := rfl
@[simp] theorem State.setFrame_sched (f : Frame) : (s.setFrame f).sched = s.sched := rfl
@[simp] theorem State.setFrame_host (f : Frame) : (s.setFrame f).host = s.host := rfl
@[simp] theorem State.setFrame_sources (f : Frame) : (s.setFrame f).sources = s.sources := rfl
@[simp] theorem State.setFrame_xrSample (f : Frame) : (s.setFrame f).xrSample = s.xrSample := rfl
@[simp] theorem State.setFrame_targets (f : Frame) : (s.setFrame f).targets = s.targets := rfl
@[simp] theorem State.setFrame_outs (f : Frame) : (s.setFrame f).outs = s.outs := rfl
@[simp] theorem State.setFrame_restarts (f : Frame) : (s.setFrame f).restarts = s.restarts := rfl
@[simp] theorem State.setFrame_rsc (f : Frame) : (s.setFrame f).rsc = s.rsc := rfl
@[simp] theorem State.setFrame_lineA (f : Frame) : (s.setFrame f).lineA = s.lineA := rfl
@[simp] theorem State.setFrame_lineB (f : Frame) : (s.setFrame f).lineB = s.lineB := rfl
@[simp] theorem State.setFrame_lanes (f : Frame) : (s.setFrame f).lanes = s.lanes := rfl
@[simp] theorem State.setFrame_staging (f : Frame) : (s.setFrame f).staging = s.staging := rfl
@[simp] theorem State.setFrame_tick (f : Frame) : (s.setFrame f).tick = s.tick := rfl
@[simp] theorem State.setFrame_timers (f : Frame) : (s.setFrame f).timers = s.timers := rfl
@[simp] theorem State.setFrame_raised (f : Frame) : (s.setFrame f).raised = s.raised := rfl
@[simp] theorem State.setFrame_pending (f : Frame) : (s.setFrame f).pending = s.pending := rfl
@[simp] theorem State.setFrame_coming (f : Frame) : (s.setFrame f).coming = s.coming := rfl

/-! ### `State.hostDone` -/

@[simp] theorem State.hostDone_now (w : Word) : (s.hostDone w).now = s.now := rfl
@[simp] theorem State.hostDone_inReset (w : Word) : (s.hostDone w).inReset = s.inReset := rfl
@[simp] theorem State.hostDone_pins (w : Word) : (s.hostDone w).pins = s.pins := rfl
@[simp] theorem State.hostDone_sched (w : Word) : (s.hostDone w).sched = s.sched := rfl
@[simp] theorem State.hostDone_svc (w : Word) : (s.hostDone w).svc = s.svc := rfl
@[simp] theorem State.hostDone_sources (w : Word) : (s.hostDone w).sources = s.sources := rfl
@[simp] theorem State.hostDone_xrSample (w : Word) : (s.hostDone w).xrSample = s.xrSample := rfl
@[simp] theorem State.hostDone_targets (w : Word) : (s.hostDone w).targets = s.targets := rfl
@[simp] theorem State.hostDone_outs (w : Word) : (s.hostDone w).outs = s.outs := rfl
@[simp] theorem State.hostDone_restarts (w : Word) : (s.hostDone w).restarts = s.restarts := rfl
@[simp] theorem State.hostDone_rsc (w : Word) : (s.hostDone w).rsc = s.rsc := rfl
@[simp] theorem State.hostDone_lineA (w : Word) : (s.hostDone w).lineA = s.lineA := rfl
@[simp] theorem State.hostDone_lineB (w : Word) : (s.hostDone w).lineB = s.lineB := rfl
@[simp] theorem State.hostDone_lanes (w : Word) : (s.hostDone w).lanes = s.lanes := rfl
@[simp] theorem State.hostDone_staging (w : Word) : (s.hostDone w).staging = s.staging := rfl
@[simp] theorem State.hostDone_tick (w : Word) : (s.hostDone w).tick = s.tick := rfl
@[simp] theorem State.hostDone_timers (w : Word) : (s.hostDone w).timers = s.timers := rfl
@[simp] theorem State.hostDone_raised (w : Word) : (s.hostDone w).raised = s.raised := rfl
@[simp] theorem State.hostDone_pending (w : Word) : (s.hostDone w).pending = s.pending := rfl
@[simp] theorem State.hostDone_coming (w : Word) : (s.hostDone w).coming = s.coming := rfl

/-! ### `State.hostRefused` -/

@[simp] theorem State.hostRefused_now (n : ItemNumber) (r : Reason) (w p : Bool) : (s.hostRefused n r w p).now = s.now := rfl
@[simp] theorem State.hostRefused_inReset (n : ItemNumber) (r : Reason) (w p : Bool) : (s.hostRefused n r w p).inReset = s.inReset := rfl
@[simp] theorem State.hostRefused_pins (n : ItemNumber) (r : Reason) (w p : Bool) : (s.hostRefused n r w p).pins = s.pins := rfl
@[simp] theorem State.hostRefused_sched (n : ItemNumber) (r : Reason) (w p : Bool) : (s.hostRefused n r w p).sched = s.sched := rfl
@[simp] theorem State.hostRefused_svc (n : ItemNumber) (r : Reason) (w p : Bool) : (s.hostRefused n r w p).svc = s.svc := rfl
@[simp] theorem State.hostRefused_sources (n : ItemNumber) (r : Reason) (w p : Bool) : (s.hostRefused n r w p).sources = s.sources := rfl
@[simp] theorem State.hostRefused_xrSample (n : ItemNumber) (r : Reason) (w p : Bool) : (s.hostRefused n r w p).xrSample = s.xrSample := rfl
@[simp] theorem State.hostRefused_targets (n : ItemNumber) (r : Reason) (w p : Bool) : (s.hostRefused n r w p).targets = s.targets := rfl
@[simp] theorem State.hostRefused_outs (n : ItemNumber) (r : Reason) (w p : Bool) : (s.hostRefused n r w p).outs = s.outs := rfl
@[simp] theorem State.hostRefused_restarts (n : ItemNumber) (r : Reason) (w p : Bool) : (s.hostRefused n r w p).restarts = s.restarts := rfl
@[simp] theorem State.hostRefused_rsc (n : ItemNumber) (r : Reason) (w p : Bool) : (s.hostRefused n r w p).rsc = s.rsc := rfl
@[simp] theorem State.hostRefused_lineA (n : ItemNumber) (r : Reason) (w p : Bool) : (s.hostRefused n r w p).lineA = s.lineA := rfl
@[simp] theorem State.hostRefused_lineB (n : ItemNumber) (r : Reason) (w p : Bool) : (s.hostRefused n r w p).lineB = s.lineB := rfl
@[simp] theorem State.hostRefused_lanes (n : ItemNumber) (r : Reason) (w p : Bool) : (s.hostRefused n r w p).lanes = s.lanes := rfl
@[simp] theorem State.hostRefused_staging (n : ItemNumber) (r : Reason) (w p : Bool) : (s.hostRefused n r w p).staging = s.staging := rfl
@[simp] theorem State.hostRefused_tick (n : ItemNumber) (r : Reason) (w p : Bool) : (s.hostRefused n r w p).tick = s.tick := rfl
@[simp] theorem State.hostRefused_timers (n : ItemNumber) (r : Reason) (w p : Bool) : (s.hostRefused n r w p).timers = s.timers := rfl
@[simp] theorem State.hostRefused_raised (n : ItemNumber) (r : Reason) (w p : Bool) : (s.hostRefused n r w p).raised = s.raised := rfl
@[simp] theorem State.hostRefused_pending (n : ItemNumber) (r : Reason) (w p : Bool) : (s.hostRefused n r w p).pending = s.pending := rfl
@[simp] theorem State.hostRefused_coming (n : ItemNumber) (r : Reason) (w p : Bool) : (s.hostRefused n r w p).coming = s.coming := rfl

/-! ### `State.heldRefused` -/

@[simp] theorem State.heldRefused_now (r : Reason) : (s.heldRefused r).now = s.now := rfl
@[simp] theorem State.heldRefused_inReset (r : Reason) : (s.heldRefused r).inReset = s.inReset := rfl
@[simp] theorem State.heldRefused_pins (r : Reason) : (s.heldRefused r).pins = s.pins := rfl
@[simp] theorem State.heldRefused_sched (r : Reason) : (s.heldRefused r).sched = s.sched := rfl
@[simp] theorem State.heldRefused_svc (r : Reason) : (s.heldRefused r).svc = s.svc := rfl
@[simp] theorem State.heldRefused_sources (r : Reason) : (s.heldRefused r).sources = s.sources := rfl
@[simp] theorem State.heldRefused_xrSample (r : Reason) : (s.heldRefused r).xrSample = s.xrSample := rfl
@[simp] theorem State.heldRefused_targets (r : Reason) : (s.heldRefused r).targets = s.targets := rfl
@[simp] theorem State.heldRefused_outs (r : Reason) : (s.heldRefused r).outs = s.outs := rfl
@[simp] theorem State.heldRefused_restarts (r : Reason) : (s.heldRefused r).restarts = s.restarts := rfl
@[simp] theorem State.heldRefused_rsc (r : Reason) : (s.heldRefused r).rsc = s.rsc := rfl
@[simp] theorem State.heldRefused_lineA (r : Reason) : (s.heldRefused r).lineA = s.lineA := rfl
@[simp] theorem State.heldRefused_lineB (r : Reason) : (s.heldRefused r).lineB = s.lineB := rfl
@[simp] theorem State.heldRefused_lanes (r : Reason) : (s.heldRefused r).lanes = s.lanes := rfl
@[simp] theorem State.heldRefused_staging (r : Reason) : (s.heldRefused r).staging = s.staging := rfl
@[simp] theorem State.heldRefused_tick (r : Reason) : (s.heldRefused r).tick = s.tick := rfl
@[simp] theorem State.heldRefused_timers (r : Reason) : (s.heldRefused r).timers = s.timers := rfl
@[simp] theorem State.heldRefused_raised (r : Reason) : (s.heldRefused r).raised = s.raised := rfl
@[simp] theorem State.heldRefused_pending (r : Reason) : (s.heldRefused r).pending = s.pending := rfl
@[simp] theorem State.heldRefused_coming (r : Reason) : (s.heldRefused r).coming = s.coming := rfl

/-! ### `State.postedAs` -/

@[simp] theorem State.postedAs_now (r : Reason) (c : Byte) (a : BitVec 16) : (s.postedAs r c a).now = s.now := rfl
@[simp] theorem State.postedAs_inReset (r : Reason) (c : Byte) (a : BitVec 16) : (s.postedAs r c a).inReset = s.inReset := rfl
@[simp] theorem State.postedAs_pins (r : Reason) (c : Byte) (a : BitVec 16) : (s.postedAs r c a).pins = s.pins := rfl
@[simp] theorem State.postedAs_sched (r : Reason) (c : Byte) (a : BitVec 16) : (s.postedAs r c a).sched = s.sched := rfl
@[simp] theorem State.postedAs_host (r : Reason) (c : Byte) (a : BitVec 16) : (s.postedAs r c a).host = s.host := rfl
@[simp] theorem State.postedAs_sources (r : Reason) (c : Byte) (a : BitVec 16) : (s.postedAs r c a).sources = s.sources := rfl
@[simp] theorem State.postedAs_xrSample (r : Reason) (c : Byte) (a : BitVec 16) : (s.postedAs r c a).xrSample = s.xrSample := rfl
@[simp] theorem State.postedAs_targets (r : Reason) (c : Byte) (a : BitVec 16) : (s.postedAs r c a).targets = s.targets := rfl
@[simp] theorem State.postedAs_outs (r : Reason) (c : Byte) (a : BitVec 16) : (s.postedAs r c a).outs = s.outs := rfl
@[simp] theorem State.postedAs_restarts (r : Reason) (c : Byte) (a : BitVec 16) : (s.postedAs r c a).restarts = s.restarts := rfl
@[simp] theorem State.postedAs_rsc (r : Reason) (c : Byte) (a : BitVec 16) : (s.postedAs r c a).rsc = s.rsc := rfl
@[simp] theorem State.postedAs_lineA (r : Reason) (c : Byte) (a : BitVec 16) : (s.postedAs r c a).lineA = s.lineA := rfl
@[simp] theorem State.postedAs_lineB (r : Reason) (c : Byte) (a : BitVec 16) : (s.postedAs r c a).lineB = s.lineB := rfl
@[simp] theorem State.postedAs_lanes (r : Reason) (c : Byte) (a : BitVec 16) : (s.postedAs r c a).lanes = s.lanes := rfl
@[simp] theorem State.postedAs_staging (r : Reason) (c : Byte) (a : BitVec 16) : (s.postedAs r c a).staging = s.staging := rfl
@[simp] theorem State.postedAs_tick (r : Reason) (c : Byte) (a : BitVec 16) : (s.postedAs r c a).tick = s.tick := rfl
@[simp] theorem State.postedAs_timers (r : Reason) (c : Byte) (a : BitVec 16) : (s.postedAs r c a).timers = s.timers := rfl
@[simp] theorem State.postedAs_raised (r : Reason) (c : Byte) (a : BitVec 16) : (s.postedAs r c a).raised = s.raised := rfl
@[simp] theorem State.postedAs_pending (r : Reason) (c : Byte) (a : BitVec 16) : (s.postedAs r c a).pending = s.pending := rfl
@[simp] theorem State.postedAs_coming (r : Reason) (c : Byte) (a : BitVec 16) : (s.postedAs r c a).coming = s.coming := rfl

/-! ### `State.setLine` -/

@[simp] theorem State.setLine_now (l : LineId) (x : Line) : (s.setLine l x).now = s.now := by cases l <;> rfl
@[simp] theorem State.setLine_inReset (l : LineId) (x : Line) : (s.setLine l x).inReset = s.inReset := by cases l <;> rfl
@[simp] theorem State.setLine_pins (l : LineId) (x : Line) : (s.setLine l x).pins = s.pins := by cases l <;> rfl
@[simp] theorem State.setLine_sched (l : LineId) (x : Line) : (s.setLine l x).sched = s.sched := by cases l <;> rfl
@[simp] theorem State.setLine_host (l : LineId) (x : Line) : (s.setLine l x).host = s.host := by cases l <;> rfl
@[simp] theorem State.setLine_svc (l : LineId) (x : Line) : (s.setLine l x).svc = s.svc := by cases l <;> rfl
@[simp] theorem State.setLine_sources (l : LineId) (x : Line) : (s.setLine l x).sources = s.sources := by cases l <;> rfl
@[simp] theorem State.setLine_xrSample (l : LineId) (x : Line) : (s.setLine l x).xrSample = s.xrSample := by cases l <;> rfl
@[simp] theorem State.setLine_targets (l : LineId) (x : Line) : (s.setLine l x).targets = s.targets := by cases l <;> rfl
@[simp] theorem State.setLine_outs (l : LineId) (x : Line) : (s.setLine l x).outs = s.outs := by cases l <;> rfl
@[simp] theorem State.setLine_restarts (l : LineId) (x : Line) : (s.setLine l x).restarts = s.restarts := by cases l <;> rfl
@[simp] theorem State.setLine_rsc (l : LineId) (x : Line) : (s.setLine l x).rsc = s.rsc := by cases l <;> rfl
@[simp] theorem State.setLine_lanes (l : LineId) (x : Line) : (s.setLine l x).lanes = s.lanes := by cases l <;> rfl
@[simp] theorem State.setLine_staging (l : LineId) (x : Line) : (s.setLine l x).staging = s.staging := by cases l <;> rfl
@[simp] theorem State.setLine_tick (l : LineId) (x : Line) : (s.setLine l x).tick = s.tick := by cases l <;> rfl
@[simp] theorem State.setLine_timers (l : LineId) (x : Line) : (s.setLine l x).timers = s.timers := by cases l <;> rfl
@[simp] theorem State.setLine_raised (l : LineId) (x : Line) : (s.setLine l x).raised = s.raised := by cases l <;> rfl
@[simp] theorem State.setLine_pending (l : LineId) (x : Line) : (s.setLine l x).pending = s.pending := by cases l <;> rfl
@[simp] theorem State.setLine_coming (l : LineId) (x : Line) : (s.setLine l x).coming = s.coming := by cases l <;> rfl

/-! ### `State.advanceTo` -/

@[simp] theorem State.advanceTo_inReset (n : Nat) : (s.advanceTo n).inReset = s.inReset := by
  unfold State.advanceTo; split <;> rfl
@[simp] theorem State.advanceTo_pins (n : Nat) : (s.advanceTo n).pins = s.pins := by
  unfold State.advanceTo; split <;> rfl
@[simp] theorem State.advanceTo_host (n : Nat) : (s.advanceTo n).host = s.host := by
  unfold State.advanceTo; split <;> rfl
@[simp] theorem State.advanceTo_svc (n : Nat) : (s.advanceTo n).svc = s.svc := by
  unfold State.advanceTo; split <;> rfl
@[simp] theorem State.advanceTo_sources (n : Nat) : (s.advanceTo n).sources = s.sources := by
  unfold State.advanceTo; split <;> rfl
@[simp] theorem State.advanceTo_xrSample (n : Nat) : (s.advanceTo n).xrSample = s.xrSample := by
  unfold State.advanceTo; split <;> rfl
@[simp] theorem State.advanceTo_targets (n : Nat) : (s.advanceTo n).targets = s.targets := by
  unfold State.advanceTo; split <;> rfl
@[simp] theorem State.advanceTo_outs (n : Nat) : (s.advanceTo n).outs = s.outs := by
  unfold State.advanceTo; split <;> rfl
@[simp] theorem State.advanceTo_restarts (n : Nat) : (s.advanceTo n).restarts = s.restarts := by
  unfold State.advanceTo; split <;> rfl
@[simp] theorem State.advanceTo_rsc (n : Nat) : (s.advanceTo n).rsc = s.rsc := by
  unfold State.advanceTo; split <;> rfl
@[simp] theorem State.advanceTo_lineA (n : Nat) : (s.advanceTo n).lineA = s.lineA := by
  unfold State.advanceTo; split <;> rfl
@[simp] theorem State.advanceTo_lineB (n : Nat) : (s.advanceTo n).lineB = s.lineB := by
  unfold State.advanceTo; split <;> rfl
@[simp] theorem State.advanceTo_lanes (n : Nat) : (s.advanceTo n).lanes = s.lanes := by
  unfold State.advanceTo; split <;> rfl
@[simp] theorem State.advanceTo_staging (n : Nat) : (s.advanceTo n).staging = s.staging := by
  unfold State.advanceTo; split <;> rfl
@[simp] theorem State.advanceTo_tick (n : Nat) : (s.advanceTo n).tick = s.tick := by
  unfold State.advanceTo; split <;> rfl
@[simp] theorem State.advanceTo_timers (n : Nat) : (s.advanceTo n).timers = s.timers := by
  unfold State.advanceTo; split <;> rfl
@[simp] theorem State.advanceTo_raised (n : Nat) : (s.advanceTo n).raised = s.raised := by
  unfold State.advanceTo; split <;> rfl
@[simp] theorem State.advanceTo_pending (n : Nat) : (s.advanceTo n).pending = s.pending := by
  unfold State.advanceTo; split <;> rfl
@[simp] theorem State.advanceTo_coming (n : Nat) : (s.advanceTo n).coming = s.coming := by
  unfold State.advanceTo; split <;> rfl

/-! ### `State.recordRefusal` -/

@[simp] theorem State.recordRefusal_now (n : ItemNumber) (r : Reason) (w p : Bool) :
    (s.recordRefusal n r w p).now = s.now := by
  unfold State.recordRefusal; split <;> rfl
@[simp] theorem State.recordRefusal_inReset (n : ItemNumber) (r : Reason) (w p : Bool) :
    (s.recordRefusal n r w p).inReset = s.inReset := by
  unfold State.recordRefusal; split <;> rfl
@[simp] theorem State.recordRefusal_pins (n : ItemNumber) (r : Reason) (w p : Bool) :
    (s.recordRefusal n r w p).pins = s.pins := by
  unfold State.recordRefusal; split <;> rfl
@[simp] theorem State.recordRefusal_sched (n : ItemNumber) (r : Reason) (w p : Bool) :
    (s.recordRefusal n r w p).sched = s.sched := by
  unfold State.recordRefusal; split <;> rfl
@[simp] theorem State.recordRefusal_svc (n : ItemNumber) (r : Reason) (w p : Bool) :
    (s.recordRefusal n r w p).svc = s.svc := by
  unfold State.recordRefusal; split <;> rfl
@[simp] theorem State.recordRefusal_sources (n : ItemNumber) (r : Reason) (w p : Bool) :
    (s.recordRefusal n r w p).sources = s.sources := by
  unfold State.recordRefusal; split <;> rfl
@[simp] theorem State.recordRefusal_xrSample (n : ItemNumber) (r : Reason) (w p : Bool) :
    (s.recordRefusal n r w p).xrSample = s.xrSample := by
  unfold State.recordRefusal; split <;> rfl
@[simp] theorem State.recordRefusal_targets (n : ItemNumber) (r : Reason) (w p : Bool) :
    (s.recordRefusal n r w p).targets = s.targets := by
  unfold State.recordRefusal; split <;> rfl
@[simp] theorem State.recordRefusal_outs (n : ItemNumber) (r : Reason) (w p : Bool) :
    (s.recordRefusal n r w p).outs = s.outs := by
  unfold State.recordRefusal; split <;> rfl
@[simp] theorem State.recordRefusal_restarts (n : ItemNumber) (r : Reason) (w p : Bool) :
    (s.recordRefusal n r w p).restarts = s.restarts := by
  unfold State.recordRefusal; split <;> rfl
@[simp] theorem State.recordRefusal_rsc (n : ItemNumber) (r : Reason) (w p : Bool) :
    (s.recordRefusal n r w p).rsc = s.rsc := by
  unfold State.recordRefusal; split <;> rfl
@[simp] theorem State.recordRefusal_lineA (n : ItemNumber) (r : Reason) (w p : Bool) :
    (s.recordRefusal n r w p).lineA = s.lineA := by
  unfold State.recordRefusal; split <;> rfl
@[simp] theorem State.recordRefusal_lineB (n : ItemNumber) (r : Reason) (w p : Bool) :
    (s.recordRefusal n r w p).lineB = s.lineB := by
  unfold State.recordRefusal; split <;> rfl
@[simp] theorem State.recordRefusal_lanes (n : ItemNumber) (r : Reason) (w p : Bool) :
    (s.recordRefusal n r w p).lanes = s.lanes := by
  unfold State.recordRefusal; split <;> rfl
@[simp] theorem State.recordRefusal_staging (n : ItemNumber) (r : Reason) (w p : Bool) :
    (s.recordRefusal n r w p).staging = s.staging := by
  unfold State.recordRefusal; split <;> rfl
@[simp] theorem State.recordRefusal_tick (n : ItemNumber) (r : Reason) (w p : Bool) :
    (s.recordRefusal n r w p).tick = s.tick := by
  unfold State.recordRefusal; split <;> rfl
@[simp] theorem State.recordRefusal_timers (n : ItemNumber) (r : Reason) (w p : Bool) :
    (s.recordRefusal n r w p).timers = s.timers := by
  unfold State.recordRefusal; split <;> rfl
@[simp] theorem State.recordRefusal_raised (n : ItemNumber) (r : Reason) (w p : Bool) :
    (s.recordRefusal n r w p).raised = s.raised := by
  unfold State.recordRefusal; split <;> rfl
@[simp] theorem State.recordRefusal_pending (n : ItemNumber) (r : Reason) (w p : Bool) :
    (s.recordRefusal n r w p).pending = s.pending := by
  unfold State.recordRefusal; split <;> rfl
@[simp] theorem State.recordRefusal_coming (n : ItemNumber) (r : Reason) (w p : Bool) :
    (s.recordRefusal n r w p).coming = s.coming := by
  unfold State.recordRefusal; split <;> rfl

/-! ### `State.look`: the service port has looked at its pins -/

@[simp] theorem State.look_now : s.look.now = s.now := rfl
@[simp] theorem State.look_pins : s.look.pins = s.pins := rfl
@[simp] theorem State.look_sched : s.look.sched = s.sched := rfl
@[simp] theorem State.look_host : s.look.host = s.host := rfl
@[simp] theorem State.look_raised : s.look.raised = s.raised := rfl
@[simp] theorem State.look_inReset : s.look.inReset = s.inReset := rfl
@[simp] theorem State.look_sources : s.look.sources = s.sources := rfl
@[simp] theorem State.look_xrSample : s.look.xrSample = s.xrSample := rfl
@[simp] theorem State.look_targets : s.look.targets = s.targets := rfl
@[simp] theorem State.look_outs : s.look.outs = s.outs := rfl
@[simp] theorem State.look_restarts : s.look.restarts = s.restarts := rfl
@[simp] theorem State.look_rsc : s.look.rsc = s.rsc := rfl
@[simp] theorem State.look_lineA : s.look.lineA = s.lineA := rfl
@[simp] theorem State.look_lineB : s.look.lineB = s.lineB := rfl
@[simp] theorem State.look_lanes : s.look.lanes = s.lanes := rfl
@[simp] theorem State.look_staging : s.look.staging = s.staging := rfl
@[simp] theorem State.look_tick : s.look.tick = s.tick := rfl
@[simp] theorem State.look_timers : s.look.timers = s.timers := rfl
@[simp] theorem State.look_pending : s.look.pending = s.pending := rfl
@[simp] theorem State.look_coming : s.look.coming = s.coming := rfl
theorem State.look_svc : s.look.svc = if s.inReset then s.svc else s.svc.see s.pins s.alertSummary s.writeStatus := rfl

/-! ### `State.arrive` and `State.enter` -/

@[simp] theorem State.arrive_inReset (m : Moment) : (s.arrive m).inReset = s.inReset := rfl
@[simp] theorem State.arrive_sources (m : Moment) : (s.arrive m).sources = s.sources := rfl
@[simp] theorem State.arrive_xrSample (m : Moment) : (s.arrive m).xrSample = s.xrSample := rfl
@[simp] theorem State.arrive_targets (m : Moment) : (s.arrive m).targets = s.targets := rfl
@[simp] theorem State.arrive_outs (m : Moment) : (s.arrive m).outs = s.outs := rfl
@[simp] theorem State.arrive_restarts (m : Moment) : (s.arrive m).restarts = s.restarts := rfl
@[simp] theorem State.arrive_rsc (m : Moment) : (s.arrive m).rsc = s.rsc := rfl
@[simp] theorem State.arrive_lineA (m : Moment) : (s.arrive m).lineA = s.lineA := rfl
@[simp] theorem State.arrive_lineB (m : Moment) : (s.arrive m).lineB = s.lineB := rfl
@[simp] theorem State.arrive_lanes (m : Moment) : (s.arrive m).lanes = s.lanes := rfl
@[simp] theorem State.arrive_staging (m : Moment) : (s.arrive m).staging = s.staging := rfl
@[simp] theorem State.arrive_tick (m : Moment) : (s.arrive m).tick = s.tick := rfl
@[simp] theorem State.arrive_timers (m : Moment) : (s.arrive m).timers = s.timers := rfl
@[simp] theorem State.arrive_pending (m : Moment) : (s.arrive m).pending = s.pending := rfl
@[simp] theorem State.arrive_coming (m : Moment) : (s.arrive m).coming = s.coming := rfl
@[simp] theorem State.arrive_now (m : Moment) : (s.arrive m).now = s.now + m.gap := rfl
@[simp] theorem State.arrive_pins (m : Moment) : (s.arrive m).pins = m.pins := rfl
@[simp] theorem State.arrive_raised (m : Moment) : (s.arrive m).raised = [] := rfl
@[simp] theorem State.arrive_host (m : Moment) : (s.arrive m).host = s.host.seeReq m.pins.hreq := rfl
@[simp] theorem State.arrive_sched (m : Moment) :
    (s.arrive m).sched = if m.gap = 0 then s.sched else s.sched.newInstant := rfl
@[simp] theorem State.enter_inReset (m : Moment) : (s.enter m).inReset = s.inReset := rfl
@[simp] theorem State.enter_sources (m : Moment) : (s.enter m).sources = s.sources := rfl
@[simp] theorem State.enter_xrSample (m : Moment) : (s.enter m).xrSample = s.xrSample := rfl
@[simp] theorem State.enter_targets (m : Moment) : (s.enter m).targets = s.targets := rfl
@[simp] theorem State.enter_outs (m : Moment) : (s.enter m).outs = s.outs := rfl
@[simp] theorem State.enter_restarts (m : Moment) : (s.enter m).restarts = s.restarts := rfl
@[simp] theorem State.enter_rsc (m : Moment) : (s.enter m).rsc = s.rsc := rfl
@[simp] theorem State.enter_lineA (m : Moment) : (s.enter m).lineA = s.lineA := rfl
@[simp] theorem State.enter_lineB (m : Moment) : (s.enter m).lineB = s.lineB := rfl
@[simp] theorem State.enter_lanes (m : Moment) : (s.enter m).lanes = s.lanes := rfl
@[simp] theorem State.enter_staging (m : Moment) : (s.enter m).staging = s.staging := rfl
@[simp] theorem State.enter_tick (m : Moment) : (s.enter m).tick = s.tick := rfl
@[simp] theorem State.enter_timers (m : Moment) : (s.enter m).timers = s.timers := rfl
@[simp] theorem State.enter_pending (m : Moment) : (s.enter m).pending = s.pending := rfl
@[simp] theorem State.enter_coming (m : Moment) : (s.enter m).coming = s.coming := rfl
@[simp] theorem State.enter_now (m : Moment) : (s.enter m).now = s.now + m.gap := rfl
@[simp] theorem State.enter_pins (m : Moment) : (s.enter m).pins = m.pins := rfl
@[simp] theorem State.enter_raised (m : Moment) : (s.enter m).raised = [] := rfl
@[simp] theorem State.enter_host (m : Moment) : (s.enter m).host = s.host.seeReq m.pins.hreq := rfl
@[simp] theorem State.enter_sched (m : Moment) :
    (s.enter m).sched = if m.gap = 0 then s.sched else s.sched.newInstant := rfl
theorem State.arrive_svc (m : Moment) : (s.arrive m).svc = if m.gap = 0 then s.svc else s.look.svc := rfl
theorem State.enter_eq (m : Moment) : s.enter m = (s.arrive m).look := rfl

/-! ### Reading back -/

theorem State.src_setSrc (i j : SourceId) (x : Source) : (s.setSrc i x).src j = if i = j then x else s.src j := by
  simp only [State.src, State.setSrc, Vector.getElem_set, Fin.ext_iff]

@[simp] theorem State.src_setSrc_self (i : SourceId) (x : Source) : (s.setSrc i x).src i = x := by
  simp [State.src_setSrc]

theorem State.src_setSrc_ne {i j : SourceId} (h : i ≠ j) (x : Source) : (s.setSrc i x).src j = s.src j := by
  simp [State.src_setSrc, h]

theorem State.tgt_setTgt (i j : TargetId) (x : Target) : (s.setTgt i x).tgt j = if i = j then x else s.tgt j := by
  simp only [State.tgt, State.setTgt, Vector.getElem_set, Fin.ext_iff]

@[simp] theorem State.tgt_setTgt_self (i : TargetId) (x : Target) : (s.setTgt i x).tgt i = x := by
  simp [State.tgt_setTgt]

theorem State.tgt_setTgt_ne {i j : TargetId} (h : i ≠ j) (x : Target) : (s.setTgt i x).tgt j = s.tgt j := by
  simp [State.tgt_setTgt, h]

theorem State.restart_setRestart (i j : TargetId) (x : Restart) : (s.setRestart i x).restart j = if i = j then x else s.restart j := by
  simp only [State.restart, State.setRestart, Vector.getElem_set, Fin.ext_iff]

@[simp] theorem State.restart_setRestart_self (i : TargetId) (x : Restart) : (s.setRestart i x).restart i = x := by
  simp [State.restart_setRestart]

theorem State.restart_setRestart_ne {i j : TargetId} (h : i ≠ j) (x : Restart) : (s.setRestart i x).restart j = s.restart j := by
  simp [State.restart_setRestart, h]

theorem State.lane_setLane (i j : LaneId) (x : Lane) : (s.setLane i x).lane j = if i = j then x else s.lane j := by
  simp only [State.lane, State.setLane, Vector.getElem_set, Fin.ext_iff]

@[simp] theorem State.lane_setLane_self (i : LaneId) (x : Lane) : (s.setLane i x).lane i = x := by
  simp [State.lane_setLane]

theorem State.lane_setLane_ne {i j : LaneId} (h : i ≠ j) (x : Lane) : (s.setLane i x).lane j = s.lane j := by
  simp [State.lane_setLane, h]

theorem State.timer_setTimer (i j : TimerId) (x : Timer) : (s.setTimer i x).timer j = if i = j then x else s.timer j := by
  simp only [State.timer, State.setTimer, Vector.getElem_set, Fin.ext_iff]

@[simp] theorem State.timer_setTimer_self (i : TimerId) (x : Timer) : (s.setTimer i x).timer i = x := by
  simp [State.timer_setTimer]

theorem State.timer_setTimer_ne {i j : TimerId} (h : i ≠ j) (x : Timer) : (s.setTimer i x).timer j = s.timer j := by
  simp [State.timer_setTimer, h]

theorem State.bell_setBell (i j : TargetId) (x : Doorbell) : (s.setBell i x).bell j = if i = j then x else s.bell j := by
  simp only [State.bell, State.setBell, Vector.getElem_set, Fin.ext_iff]

@[simp] theorem State.bell_setBell_self (i : TargetId) (x : Doorbell) : (s.setBell i x).bell i = x := by
  simp [State.bell_setBell]

theorem State.bell_setBell_ne {i j : TargetId} (h : i ≠ j) (x : Doorbell) : (s.setBell i x).bell j = s.bell j := by
  simp [State.bell_setBell, h]

@[simp] theorem State.line_setLine_self (l : LineId) (x : Line) : (s.setLine l x).line l = x := by cases l <;> rfl

theorem State.line_setLine (l k : LineId) (x : Line) : (s.setLine l x).line k = if l = k then x else s.line k := by
  cases l <;> cases k <;> rfl

/-- A state accessor sees only the vector it reads. -/
theorem State.src_congr {s t : State} (h : s.sources = t.sources) (i : SourceId) : s.src i = t.src i := by
  simp [State.src, h]

theorem State.tgt_congr {s t : State} (h : s.targets = t.targets) (i : TargetId) : s.tgt i = t.tgt i := by
  simp [State.tgt, h]

theorem State.restart_congr {s t : State} (h : s.restarts = t.restarts) (i : TargetId) : s.restart i = t.restart i := by
  simp [State.restart, h]

theorem State.lane_congr {s t : State} (h : s.lanes = t.lanes) (i : LaneId) : s.lane i = t.lane i := by
  simp [State.lane, h]

theorem State.timer_congr {s t : State} (h : s.timers = t.timers) (i : TimerId) : s.timer i = t.timer i := by
  simp [State.timer, h]

theorem State.line_congr {s t : State} (ha : s.lineA = t.lineA) (hb : s.lineB = t.lineB) (l : LineId) :
    s.line l = t.line l := by
  cases l <;> assumption

theorem State.bell_congr {s t : State} (h : s.svc.doorbells = t.svc.doorbells) (i : TargetId) :
    s.bell i = t.bell i := by
  simp [State.bell, h]

end Sys2Proof.Machine
end

