-- ==== Sys2Proof/Laws/EndOfStep.lean ====
section
/-! SUPPORT. What the end of a step can do, said once (R55, R62, R151): it writes source states, inputs and merge
counts, urgent queues and URGENT_LOST, the target outputs and SVC_ALERT, and nothing else. -/

namespace Sys2Proof.Machine

open Sys2Proof

/-- `t` is `s` with source states, inputs and merge counts, urgent queues and URGENT_LOST changed, and nothing else. -/
structure OnlyActivated (s t : State) : Prop where
  rest : t = { s with sources := t.sources, targets := t.targets }
  entry : ∀ i, (t.src i).entry = (s.src i).entry
  tgt : ∀ k, t.tgt k = { s.tgt k with urgent := (t.tgt k).urgent, lost := (t.tgt k).lost }

theorem OnlyActivated.refl (s : State) : OnlyActivated s s := ⟨rfl, fun _ => rfl, fun _ => rfl⟩

theorem OnlyActivated.trans {s t u : State} (h : OnlyActivated s t) (k : OnlyActivated t u) : OnlyActivated s u where
  rest := by rw [k.rest, h.rest]
  entry i := (k.entry i).trans (h.entry i)
  tgt j := by rw [k.tgt j, h.tgt j]

/-- Replacing a source by one with the same entry. -/
theorem OnlyActivated.setSrc (s : State) (i : SourceId) {x : Source} (h : x.entry = (s.src i).entry) :
    OnlyActivated s (s.setSrc i x) where
  rest := rfl
  entry j := by
    rw [State.src_setSrc]; split
    · next e => rw [h, e]
    · rfl
  tgt _ := rfl

/-- Replacing a target context by one with another urgent queue and URGENT_LOST. -/
theorem OnlyActivated.setTgt (s : State) (k : TargetId) (q : List SourceId) (n : Byte) :
    OnlyActivated s (s.setTgt k { s.tgt k with urgent := q, lost := n }) where
  rest := rfl
  entry _ := rfl
  tgt j := by
    rw [State.tgt_setTgt]; split
    · next e => rw [e]
    · rfl

theorem Source.normalEdge_entry (x : Source) : x.normalEdge.entry = x.entry := by
  unfold Source.normalEdge; split <;> rfl

theorem Source.followInput_entry (x : Source) : x.followInput.entry = x.entry := by
  unfold Source.followInput; split
  · split <;> rfl
  · rfl

theorem Source.leaveService_entry (x : Source) : x.leaveService.entry = x.entry := by
  unfold Source.leaveService; split <;> rfl

theorem onlyActivated_admitUrgent (s : State) (i : SourceId) : OnlyActivated s (admitUrgent s i) := by
  unfold admitUrgent
  dsimp only
  split
  · exact (OnlyActivated.setSrc s i (x := { s.src i with state := .queued _ }) rfl).trans
      (OnlyActivated.setTgt _ _ _ _)
  · exact OnlyActivated.setTgt s _ _ _

theorem onlyActivated_applyEdge (s : State) (i : SourceId) : OnlyActivated s (applyEdge s i) := by
  unfold applyEdge
  dsimp only
  split
  · exact .refl s
  · split
    · exact .refl s
    · exact .setSrc s i (Source.normalEdge_entry _)
    · unfold urgentEdge; split
      · exact onlyActivated_admitUrgent s i
      · exact .setSrc s i rfl
      · exact .refl s

theorem onlyActivated_applyEdges (n : Nat) (s : State) (i : SourceId) : OnlyActivated s (applyEdges n s i) := by
  induction n generalizing s with
  | zero => exact .refl s
  | succ n ih => exact (onlyActivated_applyEdge s i).trans (ih _)

theorem onlyActivated_activate (s : State) (i : SourceId) : OnlyActivated s (activate s i) :=
  ((OnlyActivated.setSrc s i (x := { s.src i with input := s.inputOf i }) rfl).trans
    (onlyActivated_applyEdges (activations s i) _ i)).trans (.setSrc _ i (Source.followInput_entry _))

theorem onlyActivated_foldl (l : List SourceId) (s : State) : OnlyActivated s (l.foldl activate s) := by
  induction l generalizing s with
  | nil => exact .refl s
  | cons i l ih => exact (onlyActivated_activate s i).trans (ih _)

theorem onlyActivated_activateAll (s : State) : OnlyActivated s (activateAll s) := onlyActivated_foldl _ s

/-- Everything an end of step can do (R151). -/
theorem endOfStep_eq (s : State) :
    endOfStep s =
      { s with
        sources := (endOfStep s).sources
        targets := (endOfStep s).targets
        outs := (endOfStep s).outs
        svc := { s.svc with alert := (endOfStep s).svc.alert }
        raised := [] } := by
  have h := (onlyActivated_activateAll s).rest
  unfold endOfStep State.setOutputs
  dsimp only
  rw [h]

section Fields
variable (s : State)

@[simp] theorem endOfStep_now : (endOfStep s).now = s.now := by rw [endOfStep_eq]
@[simp] theorem endOfStep_inReset : (endOfStep s).inReset = s.inReset := by rw [endOfStep_eq]
@[simp] theorem endOfStep_pins : (endOfStep s).pins = s.pins := by rw [endOfStep_eq]
@[simp] theorem endOfStep_sched : (endOfStep s).sched = s.sched := by rw [endOfStep_eq]
@[simp] theorem endOfStep_host : (endOfStep s).host = s.host := by rw [endOfStep_eq]
@[simp] theorem endOfStep_xrSample : (endOfStep s).xrSample = s.xrSample := by rw [endOfStep_eq]
@[simp] theorem endOfStep_restarts : (endOfStep s).restarts = s.restarts := by rw [endOfStep_eq]
@[simp] theorem endOfStep_rsc : (endOfStep s).rsc = s.rsc := by rw [endOfStep_eq]
@[simp] theorem endOfStep_lineA : (endOfStep s).lineA = s.lineA := by rw [endOfStep_eq]
@[simp] theorem endOfStep_lineB : (endOfStep s).lineB = s.lineB := by rw [endOfStep_eq]
@[simp] theorem endOfStep_lanes : (endOfStep s).lanes = s.lanes := by rw [endOfStep_eq]
@[simp] theorem endOfStep_staging : (endOfStep s).staging = s.staging := by rw [endOfStep_eq]
@[simp] theorem endOfStep_tick : (endOfStep s).tick = s.tick := by rw [endOfStep_eq]
@[simp] theorem endOfStep_timers : (endOfStep s).timers = s.timers := by rw [endOfStep_eq]
@[simp] theorem endOfStep_raised : (endOfStep s).raised = [] := by rw [endOfStep_eq]
@[simp] theorem endOfStep_pending : (endOfStep s).pending = s.pending := by rw [endOfStep_eq]
@[simp] theorem endOfStep_coming : (endOfStep s).coming = s.coming := by rw [endOfStep_eq]
@[simp] theorem endOfStep_sel : (endOfStep s).svc.sel = s.svc.sel := by rw [endOfStep_eq]
@[simp] theorem endOfStep_clk : (endOfStep s).svc.clk = s.svc.clk := by rw [endOfStep_eq]
@[simp] theorem endOfStep_aborts : (endOfStep s).svc.aborts = s.svc.aborts := by rw [endOfStep_eq]
@[simp] theorem endOfStep_frame : (endOfStep s).svc.frame = s.svc.frame := by rw [endOfStep_eq]
@[simp] theorem endOfStep_waitRelease : (endOfStep s).svc.waitRelease = s.svc.waitRelease := by rw [endOfStep_eq]
@[simp] theorem endOfStep_posted : (endOfStep s).svc.posted = s.svc.posted := by rw [endOfStep_eq]
@[simp] theorem endOfStep_sticky : (endOfStep s).svc.sticky = s.svc.sticky := by rw [endOfStep_eq]
@[simp] theorem endOfStep_mask : (endOfStep s).svc.mask = s.svc.mask := by rw [endOfStep_eq]
@[simp] theorem endOfStep_doorbells : (endOfStep s).svc.doorbells = s.svc.doorbells := by rw [endOfStep_eq]
@[simp] theorem endOfStep_snap : (endOfStep s).svc.snap = s.svc.snap := by rw [endOfStep_eq]
@[simp] theorem endOfStep_abortCount : (endOfStep s).svc.abortCount = s.svc.abortCount := by rw [endOfStep_eq]
@[simp] theorem endOfStep_restart (t : TargetId) : (endOfStep s).restart t = s.restart t :=
  State.restart_congr (endOfStep_restarts s) t
@[simp] theorem endOfStep_running (t : TargetId) : (endOfStep s).running t = s.running t := by
  simp [State.running]
@[simp] theorem endOfStep_lane (n : LaneId) : (endOfStep s).lane n = s.lane n :=
  State.lane_congr (endOfStep_lanes s) n
@[simp] theorem endOfStep_timer (n : TimerId) : (endOfStep s).timer n = s.timer n :=
  State.timer_congr (endOfStep_timers s) n
@[simp] theorem endOfStep_line (l : LineId) : (endOfStep s).line l = s.line l :=
  State.line_congr (endOfStep_lineA s) (endOfStep_lineB s) l
@[simp] theorem endOfStep_bell (t : TargetId) : (endOfStep s).bell t = s.bell t :=
  State.bell_congr (endOfStep_doorbells s) t

theorem endOfStep_sources : (endOfStep s).sources = (activateAll s).sources := by
  simp only [endOfStep, State.setOutputs]
theorem endOfStep_targets : (endOfStep s).targets = (activateAll s).targets := by
  simp only [endOfStep, State.setOutputs]
theorem endOfStep_src (i : SourceId) : (endOfStep s).src i = (activateAll s).src i :=
  State.src_congr (endOfStep_sources s) i
theorem endOfStep_tgt (t : TargetId) : (endOfStep s).tgt t = (activateAll s).tgt t :=
  State.tgt_congr (endOfStep_targets s) t

@[simp] theorem endOfStep_entry (i : SourceId) : ((endOfStep s).src i).entry = (s.src i).entry := by
  rw [endOfStep_src]; exact (onlyActivated_activateAll s).entry i

/-- Of a target context only the urgent queue and URGENT_LOST. -/
theorem endOfStep_tgt_eq (t : TargetId) :
    (endOfStep s).tgt t =
      { s.tgt t with urgent := ((endOfStep s).tgt t).urgent, lost := ((endOfStep s).tgt t).lost } :=
  by rw [endOfStep_tgt]; exact (onlyActivated_activateAll s).tgt t

end Fields

/-! ### Each source has its own activation (R55) -/

theorem applyEdge_src_ne (s : State) {i j : SourceId} (h : i ≠ j) : (applyEdge s i).src j = s.src j := by
  unfold applyEdge
  dsimp only
  split
  · rfl
  · split
    · rfl
    · exact State.src_setSrc_ne _ h _
    · unfold urgentEdge; split
      · unfold admitUrgent; dsimp only; split
        · exact State.src_setSrc_ne _ h _
        · rfl
      · exact State.src_setSrc_ne _ h _
      · rfl

theorem applyEdges_src_ne (n : Nat) (s : State) {i j : SourceId} (h : i ≠ j) :
    (applyEdges n s i).src j = s.src j := by
  induction n generalizing s with
  | zero => rfl
  | succ n ih => exact (ih _).trans (applyEdge_src_ne s h)

theorem activate_src_ne (s : State) {i j : SourceId} (h : i ≠ j) : (activate s i).src j = s.src j := by
  unfold activate
  dsimp only
  rw [State.src_setSrc_ne _ h, applyEdges_src_ne _ _ h, State.src_setSrc_ne _ h]

theorem foldl_activate_src_notMem {l : List SourceId} {j : SourceId} (h : j ∉ l) (s : State) :
    (l.foldl activate s).src j = s.src j := by
  induction l generalizing s with
  | nil => rfl
  | cons i l ih =>
    rw [List.foldl_cons, ih (fun hm => h (List.mem_cons_of_mem _ hm)), activate_src_ne]
    exact fun e => h (e ▸ List.mem_cons_self)

/-- The source `i` that the activations leave is what its own activation makes of it, on a state that lower-numbered
activations left. -/
theorem activateAll_src (s : State) (i : SourceId) :
    ∃ u, OnlyActivated s u ∧ u.src i = s.src i ∧ (activateAll s).src i = (activate u i).src i := by
  have hm : i ∈ allSources := List.mem_finRange i
  obtain ⟨l₁, l₂, hl⟩ := List.append_of_mem hm
  have hn : (l₁ ++ i :: l₂).Nodup := hl ▸ List.nodup_finRange 38
  rw [List.nodup_append] at hn
  refine ⟨l₁.foldl activate s, onlyActivated_foldl l₁ s, ?_, ?_⟩
  · exact foldl_activate_src_notMem (fun h => hn.2.2 i h i List.mem_cons_self rfl) s
  · unfold activateAll
    rw [hl, List.foldl_append, List.foldl_cons]
    exact foldl_activate_src_notMem (List.nodup_cons.1 hn.2.1).1 _

theorem OnlyActivated.inputOf {s u : State} (h : OnlyActivated s u) (i : SourceId) : u.inputOf i = s.inputOf i := by
  rw [h.rest]; rfl

theorem OnlyActivated.raised {s u : State} (h : OnlyActivated s u) : u.raised = s.raised := by
  rw [h.rest]

theorem OnlyActivated.running {s u : State} (h : OnlyActivated s u) (t : TargetId) : u.running t = s.running t := by
  rw [h.rest]; rfl

theorem OnlyActivated.activations {s u : State} (h : OnlyActivated s u) {i : SourceId} (hi : u.src i = s.src i) :
    activations u i = activations s i := by
  unfold Machine.activations
  rw [hi, h.inputOf, h.raised]

/-- Several edges on an enabled NORMAL EDGE source (R46). -/
def Source.normalEdges : Nat → Source → Source
  | 0, x => x
  | n + 1, x => Source.normalEdges n x.normalEdge

theorem applyEdge_src_normal (s : State) (i : SourceId) (hc : (s.src i).entry.cls = .normal) :
    (applyEdge s i).src i =
      if (s.src i).entry.enable = true ∧ (s.src i).entry.trigger = .edge then (s.src i).normalEdge else s.src i := by
  unfold applyEdge
  dsimp only
  rw [hc]
  cases he : (s.src i).entry.enable <;> cases ht : (s.src i).entry.trigger <;> simp

theorem applyEdges_src_normal (n : Nat) (s : State) (i : SourceId) (hc : (s.src i).entry.cls = .normal) :
    (applyEdges n s i).src i =
      if (s.src i).entry.enable = true ∧ (s.src i).entry.trigger = .edge then (s.src i).normalEdges n
      else s.src i := by
  induction n generalizing s with
  | zero => simp [applyEdges, Source.normalEdges]
  | succ n ih =>
    have he : ((applyEdge s i).src i).entry = (s.src i).entry := (onlyActivated_applyEdge s i).entry i
    rw [applyEdges, ih _ (by rw [he]; exact hc), he, applyEdge_src_normal s i hc]
    split <;> rfl

/-- What the end of a step makes of a NORMAL source (R46, R47, R55). -/
theorem endOfStep_src_normal (s : State) (i : SourceId) (hc : (s.src i).entry.cls = .normal) :
    (endOfStep s).src i =
      (if (s.src i).entry.enable = true ∧ (s.src i).entry.trigger = .edge then
          ({ s.src i with input := s.inputOf i } : Source).normalEdges (s.raised.count i)
        else { s.src i with input := s.inputOf i }).followInput := by
  obtain ⟨u, hu, hi, h⟩ := activateAll_src s i
  rw [endOfStep_src, h]
  unfold activate
  dsimp only
  have hx : (u.setSrc i { u.src i with input := u.inputOf i }).src i = { s.src i with input := s.inputOf i } := by
    rw [State.src_setSrc_self, hi, hu.inputOf]
  rw [State.src_setSrc_self, applyEdges_src_normal _ _ _ (by rw [hx]; exact hc), hx]
  have hn : activations u i = s.raised.count i := by
    rw [hu.activations hi]
    unfold activations
    simp [hc]
  rw [hn]

/-- The input of a source after the end of a step (R39, R55). -/
theorem applyEdge_input (s : State) (i : SourceId) : ((applyEdge s i).src i).input = (s.src i).input := by
  unfold applyEdge
  dsimp only
  split
  · rfl
  · split
    · rfl
    · rw [State.src_setSrc_self]; unfold Source.normalEdge; split <;> rfl
    · unfold urgentEdge; split
      · unfold admitUrgent; dsimp only; split
        · show ((s.setSrcState i _).src i).input = _
          unfold State.setSrcState; rw [State.src_setSrc_self]
        · rfl
      · rw [State.src_setSrc_self]; rfl
      · rfl

theorem applyEdges_input (n : Nat) (s : State) (i : SourceId) :
    ((applyEdges n s i).src i).input = (s.src i).input := by
  induction n generalizing s with
  | zero => rfl
  | succ n ih => exact (ih _).trans (applyEdge_input s i)

theorem Source.followInput_input (x : Source) : x.followInput.input = x.input := by
  unfold Source.followInput; split
  · split <;> rfl
  · rfl

@[simp] theorem endOfStep_input (s : State) (i : SourceId) : ((endOfStep s).src i).input = s.inputOf i := by
  obtain ⟨u, hu, hi, h⟩ := activateAll_src s i
  rw [endOfStep_src, h]
  unfold activate
  dsimp only
  rw [State.src_setSrc_self, Source.followInput_input, applyEdges_input, State.src_setSrc_self, hu.inputOf]

/-! ### A source without an activation -/

/-- A source whose input does not change and for which no edge is raised keeps its state and its merge count, unless it
is an enabled NORMAL LEVEL source that follows its input. -/
theorem endOfStep_src_quiet (s : State) (i : SourceId) (hn : activations s i = 0) :
    (endOfStep s).src i = ({ s.src i with input := s.inputOf i } : Source).followInput := by
  obtain ⟨u, hu, hi, h⟩ := activateAll_src s i
  rw [endOfStep_src, h]
  unfold activate
  dsimp only
  rw [hu.activations hi, hn, State.src_setSrc_self]
  show Source.followInput ((u.setSrc i _).src i) = _
  rw [State.src_setSrc_self, hi, hu.inputOf]

/-! ### Offers follow the end of the step (R62) -/

/-- The outputs are computed from parts that setting them does not change. -/
theorem State.setOutputs_outputOf (s : State) (t : TargetId) : s.setOutputs.outputOf t = s.outputOf t := rfl

theorem endOfStep_outs (s : State) :
    (endOfStep s).outs = (({ activateAll s with raised := [] } : State).setOutputs).outs := by
  simp only [endOfStep]

theorem endOfStep_outputOf (s : State) (t : TargetId) : (endOfStep s).outputOf t = (activateAll s).outputOf t := by
  simp only [endOfStep]
  generalize activateAll s = u
  rfl

theorem State.outputOf_raised (s : State) (l : List SourceId) (t : TargetId) :
    ({ s with raised := l } : State).outputOf t = s.outputOf t := rfl

theorem State.setOutputs_out (s : State) (t : TargetId) : s.setOutputs.out t = s.outputOf t := by
  match t with
  | 0 => rfl
  | 1 => rfl
  | 2 => rfl
  | 3 => rfl

theorem endOfStep_out (s : State) (t : TargetId) : (endOfStep s).out t = (endOfStep s).outputOf t := by
  rw [endOfStep_outputOf]
  have h := State.setOutputs_out { activateAll s with raised := [] } t
  rw [State.outputOf_raised] at h
  unfold State.out at h ⊢
  simp only [endOfStep_outs]
  exact h

theorem endOfStep_alert (s : State) : (endOfStep s).svc.alert = (endOfStep s).alertOutput := by
  simp only [endOfStep]
  generalize activateAll s = u
  rfl

end Sys2Proof.Machine
end

