-- ==== Sys2Proof/Laws/Frames.lean ====
section
/-! SUPPORT. Bits and words of a service frame: a word assembled from the bits of a word is that word, a look moves
the frame parser and nothing else, and a frame of a command's bits carries that command. -/

namespace Sys2Proof.Machine

open Sys2Proof

/-! ### Bits and words -/

theorem wordOfBits_concat (n : Nat) (l : List Bool) (b : Bool) :
    wordOfBits n (l ++ [b]) = wordOfBits n l <<< 1 ||| (BitVec.ofBool b).setWidth n := by
  simp [wordOfBits]

/-- Bit `i` of an assembled word is the bit that came `i` before the last. -/
theorem wordOfBits_getLsbD (n : Nat) (l : List Bool) (i : Nat) :
    (wordOfBits n l).getLsbD i = (decide (i < n) && l.reverse.getD i false) := by
  induction l using List.reverseRecOn generalizing i with
  | nil => simp [wordOfBits]
  | append_singleton l b ih =>
    rw [wordOfBits_concat]
    cases i with
    | zero => cases b <;> simp
    | succ i =>
      simp only [BitVec.getLsbD_or, BitVec.getLsbD_shiftLeft, Nat.add_sub_cancel, ih, List.reverse_append,
        List.reverse_singleton, List.singleton_append, List.getD_cons_succ, BitVec.getLsbD_setWidth]
      by_cases h : i + 1 < n
      · simp [h, Nat.lt_of_succ_lt h]
      · simp [h]

/-- Bit `k` of a word assembled from its own number of bits, the first the most significant (R20). -/
theorem wordOfBits_getMsbD {n : Nat} {l : List Bool} (h : l.length = n) {k : Nat} (hk : k < n) :
    (wordOfBits n l).getMsbD k = l.getD k false := by
  rw [BitVec.getMsbD_eq_getLsbD, wordOfBits_getLsbD]
  have : n - 1 - k < l.length := by omega
  simp only [List.getD_eq_getElem?_getD, List.getElem?_reverse this]
  rw [show l.length - 1 - (n - 1 - k) = k by omega]
  simp [hk, show n - 1 - k < n by omega]

@[simp] theorem bitsOfWord_length {n : Nat} (w : BitVec n) : (bitsOfWord w).length = n := by simp [bitsOfWord]

@[simp] theorem wordOfBits_bitsOfWord {n : Nat} (w : BitVec n) : wordOfBits n (bitsOfWord w) = w := by
  refine BitVec.eq_of_getMsbD_eq fun k hk => ?_
  rw [wordOfBits_getMsbD (bitsOfWord_length w) hk]
  simp [bitsOfWord, hk]

/-! ### What a look changes (R19) -/

/-- A look at the pins moves the frame parser and nothing else of the service port. -/
theorem ServicePort.see_eq (v : ServicePort) (p : Pins) (summary status : Byte) :
    v.see p summary status =
      { v with
        frame := (v.see p summary status).frame
        waitRelease := (v.see p summary status).waitRelease
        sel := (v.see p summary status).sel
        clk := (v.see p summary status).clk
        aborts := (v.see p summary status).aborts } := by
  unfold ServicePort.see ServicePort.release
  dsimp only
  split_ifs <;> rfl

@[simp] theorem ServicePort.see_posted (v : ServicePort) (p : Pins) (a b : Byte) : (v.see p a b).posted = v.posted := by
  rw [ServicePort.see_eq]
@[simp] theorem ServicePort.see_sticky (v : ServicePort) (p : Pins) (a b : Byte) : (v.see p a b).sticky = v.sticky := by
  rw [ServicePort.see_eq]
@[simp] theorem ServicePort.see_mask (v : ServicePort) (p : Pins) (a b : Byte) : (v.see p a b).mask = v.mask := by
  rw [ServicePort.see_eq]
@[simp] theorem ServicePort.see_alert (v : ServicePort) (p : Pins) (a b : Byte) : (v.see p a b).alert = v.alert := by
  rw [ServicePort.see_eq]
@[simp] theorem ServicePort.see_doorbells (v : ServicePort) (p : Pins) (a b : Byte) : (v.see p a b).doorbells = v.doorbells := by
  rw [ServicePort.see_eq]
@[simp] theorem ServicePort.see_snap (v : ServicePort) (p : Pins) (a b : Byte) : (v.see p a b).snap = v.snap := by
  rw [ServicePort.see_eq]
@[simp] theorem ServicePort.see_abortCount (v : ServicePort) (p : Pins) (a b : Byte) : (v.see p a b).abortCount = v.abortCount := by
  rw [ServicePort.see_eq]

variable (s : State) (m : Moment)

@[simp] theorem State.look_posted : s.look.svc.posted = s.svc.posted := by rw [State.look_svc]; split <;> simp
@[simp] theorem State.arrive_posted : (s.arrive m).svc.posted = s.svc.posted := by rw [State.arrive_svc]; split <;> simp
@[simp] theorem State.enter_posted : (s.enter m).svc.posted = s.svc.posted := by rw [State.enter_eq]; simp
@[simp] theorem State.look_sticky : s.look.svc.sticky = s.svc.sticky := by rw [State.look_svc]; split <;> simp
@[simp] theorem State.arrive_sticky : (s.arrive m).svc.sticky = s.svc.sticky := by rw [State.arrive_svc]; split <;> simp
@[simp] theorem State.enter_sticky : (s.enter m).svc.sticky = s.svc.sticky := by rw [State.enter_eq]; simp
@[simp] theorem State.look_mask : s.look.svc.mask = s.svc.mask := by rw [State.look_svc]; split <;> simp
@[simp] theorem State.arrive_mask : (s.arrive m).svc.mask = s.svc.mask := by rw [State.arrive_svc]; split <;> simp
@[simp] theorem State.enter_mask : (s.enter m).svc.mask = s.svc.mask := by rw [State.enter_eq]; simp
@[simp] theorem State.look_alert : s.look.svc.alert = s.svc.alert := by rw [State.look_svc]; split <;> simp
@[simp] theorem State.arrive_alert : (s.arrive m).svc.alert = s.svc.alert := by rw [State.arrive_svc]; split <;> simp
@[simp] theorem State.enter_alert : (s.enter m).svc.alert = s.svc.alert := by rw [State.enter_eq]; simp
@[simp] theorem State.look_doorbells : s.look.svc.doorbells = s.svc.doorbells := by rw [State.look_svc]; split <;> simp
@[simp] theorem State.arrive_doorbells : (s.arrive m).svc.doorbells = s.svc.doorbells := by rw [State.arrive_svc]; split <;> simp
@[simp] theorem State.enter_doorbells : (s.enter m).svc.doorbells = s.svc.doorbells := by rw [State.enter_eq]; simp
@[simp] theorem State.look_snap : s.look.svc.snap = s.svc.snap := by rw [State.look_svc]; split <;> simp
@[simp] theorem State.arrive_snap : (s.arrive m).svc.snap = s.svc.snap := by rw [State.arrive_svc]; split <;> simp
@[simp] theorem State.enter_snap : (s.enter m).svc.snap = s.svc.snap := by rw [State.enter_eq]; simp
@[simp] theorem State.look_abortCount : s.look.svc.abortCount = s.svc.abortCount := by rw [State.look_svc]; split <;> simp
@[simp] theorem State.arrive_abortCount : (s.arrive m).svc.abortCount = s.svc.abortCount := by rw [State.arrive_svc]; split <;> simp
@[simp] theorem State.enter_abortCount : (s.enter m).svc.abortCount = s.svc.abortCount := by rw [State.enter_eq]; simp
@[simp] theorem State.look_bell (t : TargetId) : s.look.bell t = s.bell t := by simp [State.bell]
@[simp] theorem State.arrive_bell (t : TargetId) : (s.arrive m).bell t = s.bell t := by simp [State.bell]
@[simp] theorem State.enter_bell (t : TargetId) : (s.enter m).bell t = s.bell t := by simp [State.bell]

/-! ### The command that a frame carries (R20, R21) -/

@[simp] theorem frameBits_length (code : Byte) (arg : BitVec 16) (data : Word) : (frameBits code arg data).length = 64 := by
  simp [frameBits]

theorem frameBits_take (code : Byte) (arg : BitVec 16) (data : Word) :
    (frameBits code arg data).take 24 = bitsOfWord code ++ bitsOfWord arg := by
  simp [frameBits, List.take_append]

/-- A frame that begins with the bits of a read-type command. -/
theorem Frame.of_readBits {f : Frame} {code : Byte} {arg : BitVec 16} {rest : List Bool}
    (h : f.bits = (frameBits code arg 0).take 24 ++ rest) : f.code = code ∧ f.arg = arg ∧ 24 ≤ f.bits.length := by
  rw [frameBits_take] at h
  refine ⟨?_, ?_, by simp [h]; omega⟩
  · simp [Frame.code, h]
  · simp [Frame.arg, h]

/-- A frame that begins with the bits of a write-type or unknown command. -/
theorem Frame.of_writeBits {f : Frame} {code : Byte} {arg : BitVec 16} {data : Word} {rest : List Bool}
    (h : f.bits = frameBits code arg data ++ rest) :
    f.code = code ∧ f.arg = arg ∧ f.word = data ∧ 64 ≤ f.bits.length := by
  refine ⟨?_, ?_, ?_, by simp [h]⟩
  · simp [Frame.code, h, frameBits]
  · simp [Frame.arg, h, frameBits]
  · simp [Frame.word, h, frameBits, List.drop_append, List.drop_of_length_le]

end Sys2Proof.Machine
end

