-- ==== Sys2Proof/Laws/Memory.lean ====
section
/-! SUPPORT. Staging memory: a read after a write, every other byte as before, and the canonical form, which every
memory operation keeps. -/

namespace Sys2Proof.Machine

open Sys2Proof

/-- A byte below the first listed address reads as unlisted. -/
theorem readByte_of_lt {m : List Host.Cell} {a : Nat} (h : ∀ d ∈ m, a < d.1) : readByte m a = 0 := by
  induction m with
  | nil => rfl
  | cons c rest ih =>
    have hc : ¬ c.1 = a := by have := h c (by simp); omega
    simp only [readByte, hc, if_false]
    exact ih fun d hd => h d (by simp [hd])

/-- What the canonical form says of a list with a first cell. -/
theorem wf_cons {c : Host.Cell} {m : List Host.Cell} :
    Memory.wf (c :: m) = true ↔
      c.2 ≠ 0 ∧ c.1 < Config.stagingSize ∧ (∀ d ∈ m, c.1 < d.1) ∧ Memory.wf m = true := by
  simp [Memory.wf, and_assoc]

/-- A byte reads as the value last written to it. -/
theorem readByte_writeByte_self {m : List Host.Cell} (hm : Memory.wf m = true) (a : Nat) (b : Byte) :
    readByte (writeByte m a b) a = b := by
  induction m with
  | nil =>
    by_cases hb : b = 0 <;> simp only [writeByte, hb, if_true, if_false, readByte]
  | cons c rest ih =>
    obtain ⟨-, -, hlt, hr⟩ := wf_cons.1 hm
    unfold writeByte
    by_cases h1 : a < c.1
    · by_cases hb : b = 0
      · simp only [h1, hb, if_true]
        exact readByte_of_lt (by
          intro d hd
          rcases List.mem_cons.1 hd with rfl | hd
          · exact h1
          · exact lt_trans h1 (hlt d hd))
      · simp only [h1, hb, if_true, if_false, readByte]
    · by_cases h2 : a = c.1
      · by_cases hb : b = 0
        · simp only [h2, lt_irrefl, hb, if_true, if_false]
          exact readByte_of_lt hlt
        · simp only [h2, lt_irrefl, hb, if_true, if_false, readByte]
      · have h3 : ¬ c.1 = a := fun h => h2 h.symm
        simp only [h1, h2, if_false, readByte, h3]
        exact ih hr

/-- A write leaves every other byte as it was. -/
theorem readByte_writeByte_ne (m : List Host.Cell) {a a' : Nat} (h : a' ≠ a) (b : Byte) :
    readByte (writeByte m a b) a' = readByte m a' := by
  have h' : ¬ a = a' := fun e => h e.symm
  induction m with
  | nil => by_cases hb : b = 0 <;> simp only [writeByte, hb, if_true, if_false, readByte, h']
  | cons c rest ih =>
    unfold writeByte
    by_cases h1 : a < c.1
    · by_cases hb : b = 0 <;> simp only [h1, hb, if_true, if_false, readByte, h']
    · by_cases h2 : a = c.1
      · have h3 : ¬ c.1 = a' := h2 ▸ h'
        by_cases hb : b = 0 <;> simp only [h2, lt_irrefl, hb, if_true, if_false, readByte, h3]
      · simp only [h1, h2, if_false, readByte, ih]

/-- Every address that a write leaves listed is the one written, or was listed. -/
theorem mem_writeByte {m : List Host.Cell} {a : Nat} {b : Byte} {d : Host.Cell} (h : d ∈ writeByte m a b) :
    d.1 = a ∨ d ∈ m := by
  induction m with
  | nil =>
    by_cases hb : b = 0
    · simp [writeByte, hb] at h
    · simp only [writeByte, hb, if_false, List.mem_singleton] at h; exact .inl (by rw [h])
  | cons c rest ih =>
    unfold writeByte at h
    by_cases h1 : a < c.1
    · by_cases hb : b = 0
      · simp only [h1, hb, if_true] at h; exact .inr h
      · simp only [h1, hb, if_true, if_false] at h
        rcases List.mem_cons.1 h with rfl | h
        · exact .inl rfl
        · exact .inr h
    · by_cases h2 : a = c.1
      · by_cases hb : b = 0
        · simp only [h2, lt_irrefl, hb, if_true, if_false] at h
          exact .inr (List.mem_cons_of_mem _ h)
        · simp only [h2, lt_irrefl, hb, if_true, if_false] at h
          rcases List.mem_cons.1 h with rfl | h
          · exact .inl h2.symm
          · exact .inr (List.mem_cons_of_mem _ h)
      · simp only [h1, h2, if_false] at h
        rcases List.mem_cons.1 h with rfl | h
        · exact .inr (by simp)
        · rcases ih h with h | h
          · exact .inl h
          · exact .inr (List.mem_cons_of_mem _ h)

/-- A write of a byte of staging memory keeps the canonical form. -/
theorem wf_writeByte {m : List Host.Cell} (hm : Memory.wf m = true) {a : Nat} (ha : a < Config.stagingSize) (b : Byte) :
    Memory.wf (writeByte m a b) = true := by
  induction m with
  | nil =>
    by_cases hb : b = 0
    · simp only [writeByte, hb, if_true, Memory.wf]
    · simp only [writeByte, hb, if_false]
      exact wf_cons.2 ⟨hb, ha, by simp, rfl⟩
  | cons c rest ih =>
    obtain ⟨hc, hs, hlt, hr⟩ := wf_cons.1 hm
    unfold writeByte
    by_cases h1 : a < c.1
    · by_cases hb : b = 0
      · simpa only [h1, hb, if_true] using hm
      · simp only [h1, hb, if_true, if_false]
        refine wf_cons.2 ⟨hb, ha, ?_, hm⟩
        intro d hd
        rcases List.mem_cons.1 hd with rfl | hd
        · exact h1
        · exact lt_trans h1 (hlt d hd)
    · by_cases h2 : a = c.1
      · by_cases hb : b = 0
        · simpa only [h2, lt_irrefl, hb, if_true, if_false] using hr
        · simp only [h2, lt_irrefl, hb, if_true, if_false]
          exact wf_cons.2 ⟨hb, hs, hlt, hr⟩
      · simp only [h1, h2, if_false]
        refine wf_cons.2 ⟨hc, hs, ?_, ih hr⟩
        intro d hd
        rcases mem_writeByte hd with h | h
        · have : c.1 < a := by omega
          rw [h]; exact this
        · exact hlt d h

/-- A write of a staging word keeps the canonical form. -/
theorem wf_writeStaging {m : List Host.Cell} (hm : Memory.wf m = true) {k : Nat} (hk : k < 1024) (w : Word) :
    Memory.wf (writeStaging m k w) = true := by
  have h : ∀ j, j < 4 → 4 * k + j < Config.stagingSize := by intro j hj; simp only [Config.stagingSize]; omega
  have h0 : 4 * k < Config.stagingSize := by have := h 0 (by omega); omega
  exact wf_writeByte (wf_writeByte (wf_writeByte (wf_writeByte hm h0 _) (h 1 (by omega)) _) (h 2 (by omega)) _)
    (h 3 (by omega)) _

/-- The bytes of a staging word after it is written (R116). -/
theorem readByte_writeStaging {m : List Host.Cell} (hm : Memory.wf m = true) {k : Nat} (hk : k < 1024) (w : Word) :
    readByte (writeStaging m k w) (4 * k) = field w 0 8 ∧ readByte (writeStaging m k w) (4 * k + 1) = field w 8 8 ∧
    readByte (writeStaging m k w) (4 * k + 2) = field w 16 8 ∧ readByte (writeStaging m k w) (4 * k + 3) = field w 24 8 ∧
    ∀ a, a < 4 * k ∨ 4 * k + 3 < a → readByte (writeStaging m k w) a = readByte m a := by
  have hs : ∀ j, j < 4 → 4 * k + j < Config.stagingSize := by intro j hj; simp only [Config.stagingSize]; omega
  have h0 : 4 * k < Config.stagingSize := by have := hs 0 (by omega); omega
  have w0 := wf_writeByte hm h0 (field w 0 8)
  have w1 := wf_writeByte w0 (hs 1 (by omega)) (field w 8 8)
  have w2 := wf_writeByte w1 (hs 2 (by omega)) (field w 16 8)
  refine ⟨?_, ?_, ?_, ?_, ?_⟩
  · simp only [writeStaging]
    rw [readByte_writeByte_ne _ (by omega), readByte_writeByte_ne _ (by omega), readByte_writeByte_ne _ (by omega),
      readByte_writeByte_self hm]
  · simp only [writeStaging]
    rw [readByte_writeByte_ne _ (by omega), readByte_writeByte_ne _ (by omega), readByte_writeByte_self w0]
  · simp only [writeStaging]
    rw [readByte_writeByte_ne _ (by omega), readByte_writeByte_self w1]
  · simp only [writeStaging]
    rw [readByte_writeByte_self w2]
  · intro a ha
    simp only [writeStaging]
    rw [readByte_writeByte_ne _ (by omega), readByte_writeByte_ne _ (by omega), readByte_writeByte_ne _ (by omega),
      readByte_writeByte_ne _ (by omega)]

/-- Staging memory at reset has the canonical form. -/
theorem wf_reset : Memory.wf State.reset.staging = true := rfl

end Sys2Proof.Machine
end

