-- ==== Sys2Proof/Laws/Ports.lean ====
section
/-! SUPPORT. What the two ports' shared operations do, said once: a host transaction that is refused or done, a held
request, a read-type and a write-type frame. -/

namespace Sys2Proof.Machine

open Sys2Proof

/-! ### Steps -/

/-- A step while RESET_N is high (R151). -/
theorem takeStep_of_high {s : State} (h : s.inReset = false) (m : Moment) (action : State → State) :
    takeStep m action s = endOfStep (action (s.enter m)) := by
  simp [takeStep, h]

/-- While RESET_N is low no step is taken (R155). -/
theorem takeStep_of_low {s : State} (h : s.inReset = true) (m : Moment) (action : State → State) :
    takeStep m action s = { s with pins := m.pins } := by
  simp [takeStep, h]

/-- A step of position 2 or 3 while RESET_N is high (R152). -/
theorem takeEarlyStep_of_high {s : State} (h : s.inReset = false) (m : Moment) (action : State → State) :
    takeEarlyStep m action s = endOfStep (action (s.arrive m)) := by
  simp [takeEarlyStep, h]

theorem takeEarlyStep_of_low {s : State} (h : s.inReset = true) (m : Moment) (action : State → State) :
    takeEarlyStep m action s = { s with pins := m.pins } := by
  simp [takeEarlyStep, h]

/-- The host port sees HREQ released (R1). -/
theorem seeReq_eq (h : HostPort) (hreq : Bool) : h.seeReq hreq = h.reqSeen hreq := by
  unfold HostPort.seeReq HostPort.reqSeen
  cases h.phase <;> cases hreq <;> simp

/-- What a step finds does not change whether a request is held. -/
@[simp] theorem heldRequest_arrive (s : State) (m : Moment) : (s.arrive m).heldRequest = s.heldRequest := by
  simp only [State.heldRequest, State.arrive_host, HostPort.seeReq]
  cases h : s.host.phase with
  | idle => rw [h]
  | held r => rw [h]
  | completed => cases m.pins.hreq <;> simp [h]

@[simp] theorem heldRequest_enter (s : State) (m : Moment) : (s.enter m).heldRequest = s.heldRequest :=
  heldRequest_arrive s m

@[simp] theorem satInc_byte (c : Byte) : satInc c = if c = 255 then 255 else c + 1 := by
  have : BitVec.allOnes 8 = (255 : Byte) := by decide
  unfold satInc; rw [this]; split
  · next h => exact h
  · rfl

theorem satInc_flow (c : BitVec 16) : satInc c = flowAfter c := by
  have : BitVec.allOnes 16 = (65535 : BitVec 16) := by decide
  unfold satInc flowAfter; rw [this]; split
  · next h => exact h
  · rfl

/-! ### Completions -/

theorem driveDone_eq (s : State) (w : Word) : s.driveDone w = s.hostDone w := by
  simp [State.driveDone, State.drive, State.hostDone, HostPort.done]

theorem place_zero {n : Nat} (v : BitVec n) : place v 0 = v.setWidth 32 := by simp [place]

theorem note_eq (f : FaultRecord) (num : ItemNumber) (r : Reason) (w p : Bool) :
    f.note num r w p = f.after num r w p := by
  unfold FaultRecord.note FaultRecord.after FaultRecord.occupied
  by_cases h : f.count = 0 <;> simp [h]

/-- A refused transaction changes the host port's reporting, and nothing else (R4). -/
theorem refuseHost_eq (s : State) (num : ItemNumber) (w p : Bool) (r : Reason) :
    refuseHost s num w p r = s.hostRefused num r w p := by
  unfold refuseHost State.recordRefusal State.hostRefused HostPort.refused State.driveRefused State.drive
    State.countFlow
  rw [note_eq, satInc_flow, place_zero]
  cases r.isProgramming <;> simp

/-- The held request refused with a flow reason. -/
theorem refuseHeld_eq (s : State) (r : Reason) : s.refuseHeld r = s.heldRefused r := by
  unfold State.refuseHeld State.heldRefused State.driveRefused State.drive State.countFlow
  rw [satInc_flow, place_zero]
  simp

/-! ### Host transactions -/

theorem hostAct_of_free {s : State} (h : s.heldRequest = none) (write priv : Bool) (num : ItemNumber) (it : Option Item)
    (data : Word) :
    hostAct write priv num it data s =
      match it with
      | none => s.hostRefused num .noItem write priv
      | some i => if write then hostWrite s num priv i data else hostRead s num priv i := by
  unfold hostAct
  rw [h]
  cases it with
  | none => exact refuseHost_eq ..
  | some i => rfl

theorem hostReadStep_of_free {s : State} (h : s.hostFree) (m : Moment) (priv : Bool) (it : Item) :
    hostReadStep m priv it s = endOfStep (hostRead (s.enter m) it.number priv it) := by
  unfold hostReadStep
  rw [takeStep_of_high h.1, hostAct_of_free (by simpa using h.2)]
  rfl

theorem hostWriteStep_of_free {s : State} (h : s.hostFree) (m : Moment) (priv : Bool) (it : Item) (data : Word) :
    hostWriteStep m priv it data s = endOfStep (hostWrite (s.enter m) it.number priv it data) := by
  unfold hostWriteStep
  rw [takeStep_of_high h.1, hostAct_of_free (by simpa using h.2)]
  rfl

/-- A host write that fails none of the checks 1 to 4 (R160). -/
theorem hostWriteCheck_none {s : State} {priv : Bool} {it : Item} {data : Word}
    (ha : hostAccess it = .readWrite ∨ hostAccess it = .write) (hp : s.needsPriv it data = true → priv = true)
    (hv : s.badValue it data = false) : s.hostWriteCheck priv it data = none := by
  unfold State.hostWriteCheck
  rw [if_neg (by rcases ha with h | h <;> rw [h] <;> decide), if_neg (by rcases ha with h | h <;> rw [h] <;> decide),
    if_neg (by cases hn : s.needsPriv it data <;> simp_all), hv]
  rfl

/-- An accepted host write, the waiting item apart (R162). -/
theorem hostWrite_accepted {s : State} {num : ItemNumber} {priv : Bool} {it : Item} {data : Word}
    (hc : s.hostWriteCheck priv it data = none) (hw : ∀ l, it ≠ .line l .txWait)
    (hs : s.writeRefusal it data = none) :
    hostWrite s num priv it data = (writeItem s it data).hostDone 0 := by
  unfold hostWrite
  rw [hc]
  dsimp only
  split
  · exact absurd rfl (hw _)
  · rw [hs]; exact driveDone_eq ..

/-- A host write refused by one of the checks 1 to 4 (R160). -/
theorem hostWrite_refused {s : State} {num : ItemNumber} {priv : Bool} {it : Item} {data : Word} {r : Reason}
    (hc : s.hostWriteCheck priv it data = some r) :
    hostWrite s num priv it data = s.hostRefused num r true priv := by
  unfold hostWrite
  rw [hc]
  exact refuseHost_eq ..

/-- A host write refused by its state (R160, check 5). -/
theorem hostWrite_refused_state {s : State} {num : ItemNumber} {priv : Bool} {it : Item} {data : Word} {r : Reason}
    (hc : s.hostWriteCheck priv it data = none) (hw : ∀ l, it ≠ .line l .txWait)
    (hs : s.writeRefusal it data = some r) :
    hostWrite s num priv it data = s.hostRefused num r true priv := by
  unfold hostWrite
  rw [hc]
  dsimp only
  split
  · exact absurd rfl (hw _)
  · rw [hs]; exact refuseHost_eq ..

/-- A host read that is done, the waiting item apart (R161, R163). -/
theorem hostRead_done {s : State} {num : ItemNumber} {priv : Bool} {it : Item} (ha : hostAccess it ≠ .none)
    (hw : ∀ l, it ≠ .line l .rxWait) (hr : s.readRefusal it = none) :
    hostRead s num priv it = (consume s it).hostDone (s.itemWord it) := by
  unfold hostRead
  rw [if_neg ha]
  split
  · exact absurd rfl (hw _)
  · rw [hr]; exact driveDone_eq ..

/-- A host read that is refused for a state reason (R161). -/
theorem hostRead_refused {s : State} {num : ItemNumber} {priv : Bool} {it : Item} {r : Reason}
    (ha : hostAccess it ≠ .none) (hw : ∀ l, it ≠ .line l .rxWait) (hr : s.readRefusal it = some r) :
    hostRead s num priv it = s.hostRefused num r false priv := by
  unfold hostRead
  rw [if_neg ha]
  split
  · exact absurd rfl (hw _)
  · rw [hr]; exact refuseHost_eq ..

/-! ### Service frames -/

theorem setFrame_eq (s : State) (f : Frame) : s.setFrame f = s.withFrame f := rfl

theorem alertBit_eq (alert : Bool) : (BitVec.ofBool alert).setWidth 8 <<< 7 = alertBit alert := by
  cases alert <;> decide

theorem readStatus_eq (s : State) (r : Reason) : s.readStatus r = alertBit s.svc.alert ||| r.code.setWidth 8 := by
  rw [State.readStatus, alertBit_eq]

theorem writeStatus_eq (s : State) :
    s.writeStatus = alertBit s.svc.alert ||| 0x40 ||| s.svc.posted.result.setWidth 8 := by
  rw [State.writeStatus, alertBit_eq]

theorem post_eq (s : State) (r : Reason) (code : Byte) (arg : BitVec 16) :
    s.post r code arg = s.postedAs r code arg := by
  unfold State.post State.postedAs
  split
  · next h => rw [h]
  · simp [State.setSticky, postedRefusedBit]

/-- The frame of a command's bits begins with them. -/
theorem frameOf_bits (s : State) (bits : List Bool) : ∃ rest, (s.frameOf bits).bits = bits ++ rest := ⟨_, rfl⟩

/-- The frame of a command goes on from the one in progress (R20, R21). -/
theorem frameOf_goesOn (s : State) (bits : List Bool) : (s.frameOf bits).GoesOn s := by
  unfold State.frameOf
  constructor
  · intro g hg he; simp [hg, he]
  · intro h
    cases hf : s.svc.frame with
    | none => rfl
    | some g => simp [h g hf, Frame.begun]

/-- Its status byte, until the command forms one, is that of the one in progress. -/
theorem frameOf_status (s : State) (bits : List Bool) :
    (∀ g b, s.svc.frame = some g → g.executed = false → g.status = some b → (s.frameOf bits).status = some b) ∧
      ((∀ g, s.svc.frame = some g → g.executed = true ∨ g.status = none) → (s.frameOf bits).status = none) := by
  unfold State.frameOf
  constructor
  · intro g b hg he hb; simp [hg, he, hb]
  · intro h
    cases hf : s.svc.frame with
    | none => rfl
    | some g => cases he : g.executed with
      | true => simp [he, Frame.begun]
      | false => simpa [he] using (h g hf)

/-- What a read-type command does (R21, R22). -/
theorem readCommand_frame {s : State} {m : Moment} (h : s.svcFree m) (code : Byte) (arg : BitVec 16)
    (act : State → Reply) :
    ReadFrame (s.arrive m) (readCommand m code arg act s) (act (s.arrive m)).state code arg (act (s.arrive m)).result
      (act (s.arrive m)).data := by
  unfold readCommand
  rw [if_neg (by simp [h.1])]
  dsimp only
  rw [if_neg (by rw [h.2]; decide)]
  obtain ⟨rest, hb⟩ := frameOf_bits (s.arrive m) ((frameBits code arg 0).take 24)
  have g := frameOf_goesOn (s.arrive m) ((frameBits code arg 0).take 24)
  refine ⟨_, rfl, (Frame.of_readBits hb).1, (Frame.of_readBits hb).2.1, (Frame.of_readBits hb).2.2, rfl, rfl,
    ⟨g.same, g.own⟩, ?_⟩
  exact congrArg some (readStatus_eq ..)

/-- What a write-type command does (R21 to R23). -/
theorem writeCommand_frame {s : State} {m : Moment} (h : s.svcFree m) (code : Byte) (arg : BitVec 16) (data : Word)
    (act : State → Reply) :
    WriteFrame (s.arrive m) (writeCommand m code arg data act s) (act (s.arrive m)).state (act (s.arrive m)).result code
      arg data := by
  unfold writeCommand
  rw [if_neg (by simp [h.1])]
  dsimp only
  rw [if_neg (by rw [h.2]; decide), post_eq]
  obtain ⟨rest, hb⟩ := frameOf_bits (s.arrive m) (frameBits code arg data)
  have g := frameOf_goesOn (s.arrive m) (frameBits code arg data)
  have st := frameOf_status (s.arrive m) (frameBits code arg data)
  have w := Frame.of_writeBits hb
  refine ⟨_, rfl, w.1, w.2.1, w.2.2.1, w.2.2.2, rfl, rfl, ⟨g.same, g.own⟩, ?_, ?_⟩
  · intro q b hq he hs
    simp [st.1 q b hq he hs]
  · intro hn
    simp [st.2 hn, writeStatus_eq]

end Sys2Proof.Machine
end

