-- ==== Sys2Proof/Tests/Slice0.lean ====
section
/-! SUPPORT. Tests: ill-formed commands; item numbers against spec/11; one or two steps of each command, with expected
values from the worked sequences and tables of spec/; and for every statement a state and operands that meet its
hypotheses. -/

open Sys2Proof Sys2Proof.Machine

namespace Sys2Proof.Tests

set_option Elab.async false

/-! ### Small states -/

def pins : Pins := { pinsAtRest with hreq := true, seizePermit := true }

/-- HREQ asserted, SEIZE_PERMIT high, no time since the step before. -/
def now : Moment := ⟨0, pins⟩

/-- The same with SEIZE_PERMIT low. -/
def denying : Moment := ⟨0, { pins with seizePermit := false }⟩

/-- The same a character's time later. -/
def later : Moment := ⟨40000, pins⟩

/-- SVC_SEL asserted: a service frame. -/
def framed : Moment := ⟨0, { pins with svcSel := true }⟩

def inRun : Restart := ⟨.run, 0, 0, .power⟩

/-- The hub after its power-on pulses. -/
def ready : State :=
  { State.reset with
    restarts := #v[inRun, inRun, inRun, inRun]
    outs := #v[⟨false, 0, false, false⟩, ⟨false, 0, false, false⟩, ⟨false, 0, false, false⟩,
      ⟨false, 0, false, false⟩] }

/-- A frame in progress whose bits so far are these and whose last edge of SVC_CLK is over; the pins hold SVC_SEL asserted,
with SVC_CLK and SVC_DIN as given. -/
def sampling (bits : List Bool) (clk din : Bool) (s : State) : State :=
  { s with
    pins := { pinsAtRest with svcSel := true, svcClk := clk, svcDin := din }
    svc := { s.svc with sel := true, frame := some ⟨bits, false, 0, none, 0⟩ } }

/-- Line A RUNNING and hunting (spec/06, worked sequence). -/
def lineOn : Line := { Line.powerOn with state := .running, rx := ⟨.hunting, 0, 0, 0⟩ }

def onLine : State := ready.setLine .a lineOn

/-- One received character without marks. -/
def char (v : Byte) : RxEntry := ⟨v, false, false, false⟩

/-- Line A RUNNING with this program receive queue. -/
def withRx (q : List RxEntry) : State := ready.setLine .a { lineOn with prog := { lineOn.prog with rx := q } }

/-- Line A RUNNING with this program transmit queue. -/
def withTx (q : List Byte) : State := ready.setLine .a { lineOn with prog := { lineOn.prog with tx := q } }

/-- The service channel owns line A. -/
def seized : State := ready.setLine .a { lineOn with owner := .service }

/-- A read of LINE_RX_WAIT of line A is held since 0 with limit 200 (spec/01, worked sequence). -/
def heldRead : State := { onLine with host := { onLine.host with phase := .held ⟨.a, false, 0, 0, 200⟩ } }

/-- A write of LINE_TX_WAIT of line A is held since 0 with limit 200. -/
def heldWrite : State :=
  let s := withTx (List.replicate 32 0x41)
  { s with host := { s.host with phase := .held ⟨.a, true, 0x42, 0, 200⟩ } }

/-- The entry of source 5 in spec/03's worked sequence. -/
def entry5 : Entry := ⟨true, .normal, .edge, false, 1, 0, 12, 0x45⟩

/-- The entry of source 4 in spec/04's worked sequence. -/
def entry4 : Entry := ⟨true, .normal, .edge, false, 0, 0, 6, 4⟩

/-- The entry of source 19 in spec/04's worked sequence. -/
def entry19 : Entry := ⟨true, .normal, .edge, false, 0, 0, 14, 0x20⟩

/-- An URGENT entry to target 2 (spec/03, worked sequence). -/
def urgent : Entry := ⟨true, .urgent, .edge, false, 2, 0, 0, 9⟩

/-- Target 0 of spec/04's worked sequence: base 0x00040000, stride code 2. -/
def target0 : Target := { Target.powerOn with vbase := 0x40, vstride := 2 }

/-- Source 4 PENDING for target 0 (spec/04, worked sequence, step 1). -/
def offered : State := (ready.setSrc 4 ⟨entry4, .pending, false, 0⟩).setTgt 0 target0

/-- Sources 4 and 19 in service with target 0 (spec/04, worked sequence, steps 8 and 9). -/
def nested : State :=
  ((ready.setSrc 4 ⟨entry4, .activePending 0, false, 0⟩).setSrc 19 ⟨entry19, .active 0, false, 0⟩).setTgt 0
    { target0 with stack := [(4, 6), (19, 14)], takes := 2 }

/-- The urgent queue of target 2 holds sources 16 and 17; source 9 is QUEUED nowhere (spec/03, worked sequence). -/
def urgentReady : State :=
  let s := (ready.setSrc 16 ⟨{ urgent with tag := 16 }, .queued 2, false, 0⟩).setSrc 17
    ⟨{ urgent with tag := 17 }, .queued 2, false, 0⟩
  let s := ((s.setSrc 3 ⟨urgent, .idle, false, 0⟩).setSrc 9 ⟨urgent, .idle, false, 0⟩).setSrc 11
    ⟨urgent, .idle, false, 0⟩
  s.setTgt 2 { Target.powerOn with urgent := [16, 17] }

/-- The first job of spec/07's worked sequence. -/
def job21 : Job := ⟨0x21, 0x100, 64, some 0x0D, true, true, false⟩

/-- The assembly of that job. -/
def assembly21 : Assembly := ⟨0x100, 64, 0x21, 0x0D, true, true, true, false⟩

def laneWith (n : LaneId) (x : Lane) (s : State) : State := s.setLane n x

def record (tag : Byte) : Record := ⟨tag, .count, 1, false⟩

/-- Timer 2 as spec/08's worked sequence sets it, one tick before its limit of 500. -/
def timer2 (mark : Bool) : Timer := ⟨true, .running, 499, 500, mark, 0, true, some 1⟩

/-- The command's next state satisfies `p`. -/
def after (c : Instr) (s : State) (p : State → Bool) : Bool :=
  match exec c s with
  | .next t => p t
  | _ => false

/-- A host transaction is done with this word. -/
def doneWith (w : Word) (t : State) : Bool := t.host.hdone && !t.host.hrefuse && t.host.hdata == w

/-- A host transaction is refused with this code (spec/01, section 1.2). -/
def refusedWith (r : Word) (t : State) : Bool := !t.host.hdone && t.host.hrefuse && t.host.hdata == r

/-- The posted record (spec/02, section 2.3). -/
def posts (result : BitVec 4) (code : Byte) (arg : BitVec 16) (t : State) : Bool := t.svc.posted == ⟨result, code, arg⟩

/-- What a read-type frame returns: its status byte and its data. -/
def returns (status : Byte) (data : Word) (t : State) : Bool :=
  match t.svc.frame with
  | some f => f.status == some status && f.data == data
  | none => false

/-! ### Ill-formed commands are refused -/

theorem test_register_write_needs_item_without_row : (Instr.registerWrite now true 0x0003 0).wellFormed = false := by
  decide

theorem test_register_write_of_wait_limit : (Instr.registerWrite now true 0x0001 50).wellFormed = true := by decide

theorem test_bad_command_needs_unknown_code : (Instr.badCommand now 0x30 0 0).wellFormed = false := by decide

theorem test_bad_command_of_unknown_code : (Instr.badCommand now 0x04 0 0).wellFormed = true := by decide

/-! ### Item numbers (spec/11, section 11.5) and table words -/

theorem test_item_tgt_done : decodeItem 0x0202 = some (.tgt 0 .done) := by decide

theorem test_item_line_b_owner : decodeItem 0x040E = some (.line .b .owner) := by decide

theorem test_item_timer3_status : decodeItem 0x062C = some (.timer 3 .status) := by decide

theorem test_item_last_staging_word : decodeItem 0x0DFF = some (.staging 1023) := by decide

theorem test_item_none : decodeItem 0x0006 = none ∧ decodeItem 0x014C = none ∧ decodeItem 0x0E00 = none := by decide

theorem test_no_table_word_spells_a_command : decodeTableWord 32 0x12345678 = none := by decide

theorem test_fetch_word_leaves_the_state (n w : Nat) : State.reset.withFetchWord n w = State.reset := rfl

/-! ### Staging memory -/

theorem test_reset_memory_canonical : Memory.wf State.reset.staging = true := by decide

theorem test_word_bytes_in_order : readByte (writeStaging [] 3 0x44332211) 14 = 0x33 := by decide

/-! ### Resets (spec/10) -/

theorem test_reset_assert_stops_line_and_outputs :
    after (.resetNAssert now) onLine (fun t => t.inReset && t.lineA.state == .stopped && t.host == .powerOn) = true := by
  decide +kernel

theorem test_reset_release_begins_power_pulses :
    after (.resetNRelease framed) { onLine with inReset := true }
      (fun t => !t.inReset && (t.restart 3).state == .pulse 320000 && t.svc.waitRelease) = true := by
  decide +kernel

/-! ### Host port (spec/01, worked sequences) -/

theorem test_hub_id : after (.hostTransactionBegin now false false 0x0000 0) ready (doneWith 0x000101B8) = true := by
  decide +kernel

theorem test_wait_limit_protected :
    after (.hostTransactionBegin now true false 0x0001 50) ready
      (fun t => refusedWith 3 t && t.host.fault == ⟨0x0001, 3, true, false, false, 1⟩ && (t.src 36).input) = true := by
  decide +kernel

theorem test_register_write_sets_wait_limit :
    after (.registerWrite now true 0x0001 50) ready (fun t => doneWith 0 t && t.host.waitLimit == 50) = true := by
  decide +kernel

theorem test_register_write_keeps_first_fault :
    after (.registerWrite now true 0x0001 300)
      { ready with host := { ready.host with fault := ⟨0x0001, 3, true, false, true, 2⟩ } }
      (fun t => refusedWith 4 t && t.host.fault == ⟨0x0001, 3, true, false, true, 3⟩) = true := by
  decide +kernel

theorem test_fault_ack_empties_record :
    after (.hubFaultAck now true 77) { ready with host := { ready.host with fault := ⟨1, 3, true, false, true, 3⟩ } }
      (fun t => doneWith 0 t && t.host.fault == .empty && !(t.src 36).input) = true := by
  decide +kernel

theorem test_flow_count_cleared :
    after (.hubFlowCount now true 9) { ready with host := { ready.host with flowCount := 7 } }
      (fun t => doneWith 0 t && t.host.flowCount == 0) = true := by
  decide +kernel

theorem test_hub_clear_all_keeps_pulses :
    after (.hubClearAll now true 0) { onLine with host := { onLine.host with waitLimit := 50 } }
      (fun t => doneWith 0 t && t.host.waitLimit == 0 && t.lineA == .powerOn && (t.restart 0).state == .run) = true := by
  decide +kernel

theorem test_rx_wait_is_held :
    after (.lineRxWait now false .a) { onLine with host := { onLine.host with waitLimit := 200 } }
      (fun t => !t.host.hdone && !t.host.hrefuse && t.host.phase == .held ⟨.a, false, 0, 0, 200⟩) = true := by
  decide +kernel

theorem test_tx_wait_full_with_limit_zero :
    after (.lineTxWait now false .a 0x42) (withTx (List.replicate 32 0x41))
      (fun t => refusedWith 10 t && t.host.flowCount == 1) = true := by
  decide +kernel

theorem test_held_read_completes :
    after (.heldRequestCompletion ⟨2336, pins⟩)
      { withRx [char 0x6C] with host := heldRead.host }
      (fun t => doneWith 0x6C t && t.host.flowCount == 0 && t.lineA.prog.rx == []) = true := by
  decide +kernel

theorem test_held_read_ends_when_seized :
    after (.heldRequestCompletion ⟨1280, pins⟩) { seized with host := heldRead.host }
      (fun t => refusedWith 9 t && t.host.flowCount == 1) = true := by
  decide +kernel

theorem test_limit_expires_at_its_instant :
    after (.waitLimitExpiry now) heldRead (fun t => refusedWith 9 t && t.now == 6400 && t.host.flowCount == 1) = true := by
  decide +kernel

/-! ### Event sources (spec/03, worked sequences) -/

theorem test_entry_written_whole :
    after (.srcEntry now false 5 0x450C0015) ready
      (fun t => doneWith 0 t && (t.src 5).entry == ⟨true, .normal, .edge, false, 1, 0, 12, 0x45⟩) = true := by
  decide +kernel

theorem test_entry_change_while_pending_refused :
    after (.srcEntry now false 5 0x440C0015) (ready.setSrc 5 ⟨entry5, .pending, false, 0⟩) (refusedWith 5) = true := by
  decide +kernel

theorem test_status_write_clears_merge_count :
    after (.srcStatus now false 5 0) (ready.setSrc 5 ⟨entry5, .idle, false, 3⟩)
      (fun t => doneWith 0 t && (t.src 5).merge == 0) = true := by
  decide +kernel

theorem test_xr_edge_makes_source_pending :
    after (.xrSampling ⟨1, { pins with xr := 0x0020 }⟩) (ready.setSrc 5 ⟨entry5, .idle, false, 0⟩)
      (fun t => (t.src 5).state == .pending && (t.out 1).irq && (t.out 1).lvl == 12 && t.now == 32) = true := by
  decide +kernel

theorem test_urgent_arrivals_fill_queue :
    after (.xrSampling ⟨1, { pins with xr := 0x0A08 }⟩) urgentReady
      (fun t => (t.tgt 2).urgent == [16, 17, 3, 9] && (t.tgt 2).lost == 1 && (t.src 11).state == .idle) = true := by
  decide +kernel

/-! ### Targets (spec/04, worked sequence) -/

theorem test_take_dispatches_source_4 :
    after (.tgtTake now false 0) offered
      (fun t => doneWith 0x04010604 t && (t.tgt 0).dispatch == 0x00040100 && (t.tgt 0).stack == [(4, 6)] &&
        (t.tgt 0).takes == 1 && (t.src 4).state == .active 0 && !(t.out 0).irq) = true := by
  decide +kernel

theorem test_late_take_is_empty : after (.tgtTake now false 1) offered (doneWith 0x0000003F) = true := by decide +kernel

theorem test_urgent_take_returns_head :
    after (.tgtTakeUrgent now false 2) urgentReady
      (fun t => doneWith 0x10000010 t && (t.tgt 2).urgent == [17] && (t.src 16).state == .idle) = true := by
  decide +kernel

theorem test_done_out_of_order :
    after (.tgtDone now false 0 4) nested
      (fun t => doneWith 0 t && (t.tgt 0).stack == [(19, 14)] && (t.src 4).state == .pending && !(t.out 0).irq) = true := by
  decide +kernel

theorem test_done_of_other_target_refused :
    after (.tgtDone now false 0 24) nested
      (fun t => refusedWith 6 t && t.host.fault == ⟨0x0202, 6, true, false, false, 1⟩) = true := by
  decide +kernel

theorem test_floor_withdraws_offer :
    after (.tgtFloor now false 0 31) { offered with outs := offered.outs.set 0 ⟨true, 6, false, false⟩ }
      (fun t => doneWith 0 t && !(t.out 0).irq && (t.out 0).lvl == 0) = true := by
  decide +kernel

theorem test_urgent_status_write_clears_lost :
    after (.tgtUrgentStatus now false 2 5) (urgentReady.setTgt 2 { urgentReady.tgt 2 with lost := 9 })
      (fun t => doneWith 0 t && (t.tgt 2).lost == 0 && (t.tgt 2).urgent == [16, 17]) = true := by
  decide +kernel

theorem test_doorbell_read_clears_flag :
    after (.doorbellWord now false 3) (ready.setBell 3 ⟨0xCAFE, true⟩)
      (fun t => doneWith 0xCAFE t && !(t.bell 3).unread && !(t.src 35).input) = true := by
  decide +kernel

/-! ### Lines (spec/05, spec/06, worked sequence) -/

theorem test_line_start_waits_for_mark :
    after (.lineStart now true .a 0) ready
      (fun t => doneWith 0 t && t.lineA.state == .running && t.lineA.rx.phase == .waitMark) = true := by
  decide +kernel

theorem test_line_stop_drains :
    after (.lineStop now true .a 0) (ready.setLine .a { lineOn with tx := some ⟨0x4F, 0⟩ })
      (fun t => doneWith 0 t && t.lineA.state == .draining && t.lineA.rx.phase == .off) = true := by
  decide +kernel

theorem test_line_clear_needs_privilege : after (.lineClear now false .a 0) onLine (refusedWith 3) = true := by
  decide +kernel

theorem test_line_clear_aborts_job :
    after (.lineClear now true .a 0) (laneWith 0 { Lane.powerOn with state := .running job21 5 } (withRx [char 1]))
      (fun t => t.lineA.prog.rx == [] && (t.lane 0).state == .idle &&
        (t.lane 0).records == [⟨0x21, .aborted, 5, true⟩]) = true := by
  decide +kernel

theorem test_control_start :
    after (.lineControlStart framed .b 0) ready (fun t => t.lineB.state == .running && posts 0 0x10 0x0405 t) = true := by
  decide +kernel

theorem test_control_stop :
    after (.lineControlStop framed .a 0) onLine (fun t => t.lineA.state == .stopped && posts 0 0x10 0x0305 t) = true := by
  decide +kernel

theorem test_control_clear_ends_held_request :
    after (.lineControlClear framed .a 0) heldRead
      (fun t => refusedWith 14 t && t.host.flowCount == 1 && posts 0 0x10 0x0305 t) = true := by
  decide +kernel

theorem test_line_rx_word :
    after (.lineRx now false .a) (withRx [⟨0x41, true, false, false⟩, char 0x42])
      (fun t => doneWith 0x00010141 t && t.lineA.prog.rx == [char 0x42]) = true := by
  decide +kernel

theorem test_line_rx_lane_busy :
    after (.lineRx now false .a) (laneWith 0 { Lane.powerOn with state := .halted } (withRx [char 1]))
      (refusedWith 11) = true := by
  decide +kernel

theorem test_line_tx_appends :
    after (.lineTx now false .a 0x14B) (withTx [0x4F]) (fun t => doneWith 0 t && t.lineA.prog.tx == [0x4F, 0x4B]) = true := by
  decide +kernel

theorem test_perr_write_clears_named_flags :
    after (.linePerr now false .a 1) (ready.setLine .a { lineOn with prog := { lineOn.prog with flags := 5 } })
      (fun t => doneWith 0 t && t.lineA.prog.flags == 4) = true := by
  decide +kernel

theorem test_serr_write_clears_named_flags :
    after (.lineSerr framed .a 4) (ready.setLine .a { lineOn with serv := { lineOn.serv with flags := 5 } })
      (fun t => t.lineA.serv.flags == 1 && posts 0 0x10 0x030C t) = true := by
  decide +kernel

theorem test_release_raises_ownership_edge :
    after (.releaseLine denying false .a 0) (onLine.setSrc 27 ⟨{ entry4 with level := 8 }, .idle, false, 0⟩)
      (fun t => t.lineA.owner == .service && (t.src 27).state == .pending && (t.out 0).lvl == 8) = true := by
  decide +kernel

theorem test_reclaim_locks_seizes :
    after (.reclaimLine now true .a 0) seized
      (fun t => t.lineA.owner == .program && t.lineA.lock && t.svc.sticky == 4 && t.svc.alert) = true := by
  decide +kernel

theorem test_unlock : after (.unlockSeize now true .a 0) (ready.setLine .a { lineOn with lock := true })
    (fun t => doneWith 0 t && !t.lineA.lock) = true := by
  decide +kernel

theorem test_seize_character_changes_owner :
    after (.receiverCompletion later .a (some ⟨0x1C, false, true⟩)) onLine
      (fun t => t.lineA.owner == .service && t.lineA.prog.rx == [] && t.lineA.serv.rx == []) = true := by
  decide +kernel

theorem test_marked_character_reaches_its_queue :
    after (.receiverCompletion later .a (some ⟨0x41, true, true⟩))
      (ready.setLine .a
        { lineOn with
          format := ⟨3, false, .even, false⟩
          rxThresh := 4
          prog := { lineOn.prog with rx := [char 1, char 2, char 3] } })
      (fun t => t.lineA.prog.rx == [char 1, char 2, char 3, ⟨0x41, true, false, false⟩] && t.lineA.prog.flags == 1 &&
        (t.src 24).input && (t.src 25).input) = true := by
  decide +kernel

theorem test_receiver_sample_confirms_no_start_early :
    after (.receiverSample now .a) (ready.setLine .a { lineOn with rx := ⟨.checking 6, 0, 7, 0⟩ })
      (fun t => t.lineA.rx.phase == .checking 7 && t.lineA.rx.index == 8) = true := by
  decide +kernel

theorem test_receiver_sample_confirms_start :
    after (.receiverSample ⟨0, { pins with rxdA := false }⟩ .a) (ready.setLine .a { lineOn with rx := ⟨.checking 7, 0, 8, 0⟩ })
      (fun t => t.lineA.rx.phase == .inFrame 0 []) = true := by
  decide +kernel

theorem test_transmitter_starts_head :
    after (.transmitterStart now .a) (withTx [0x4B, 0x0D])
      (fun t => t.lineA.tx == some ⟨0x4B, 0⟩ && t.lineA.prog.tx == [0x0D] && t.txd .a == false) = true := by
  decide +kernel

theorem test_transmitter_completion_at_ten_bit_times :
    after (.transmitterCompletion now .a) (ready.setLine .a { lineOn with state := .draining, tx := some ⟨0x4F, 0⟩, rx := ⟨.off, 0, 0, 0⟩ })
      (fun t => t.lineA.tx == none && t.lineA.state == .stopped && t.now == 33330) = true := by
  decide +kernel

/-! ### Sequencer (spec/07, worked sequence) -/

theorem test_submit_starts_idle_lane :
    after (.tsqSubmit now false 0 0) (laneWith 0 { Lane.powerOn with asm := assembly21 } onLine)
      (fun t => doneWith 0 t && (t.lane 0).state == .running job21 0) = true := by
  decide +kernel

theorem test_submit_of_stop_character_to_transmit_lane_refused :
    after (.tsqSubmit now false 1 0) (laneWith 1 { Lane.powerOn with asm := assembly21 } onLine)
      (fun t => refusedWith 4 t && (t.lane 1).state == .idle) = true := by
  decide +kernel

theorem test_receive_move_stores_character :
    after (.receiveMove now .a) (laneWith 0 { Lane.powerOn with state := .running job21 0 } (withRx [char 0x6C]))
      (fun t => (t.lane 0).state == .running job21 1 && readByte t.staging 0x100 == 0x6C && t.lineA.prog.rx == []) = true := by
  decide +kernel

theorem test_stop_character_ends_job :
    after (.receiveMove now .a)
      (laneWith 0 { Lane.powerOn with state := .running job21 5, queue := [job21] } (withRx [char 0x0D]))
      (fun t => readByte t.staging 0x105 == 0x0D && (t.lane 0).records == [⟨0x21, .stopChar, 6, true⟩] &&
        (t.lane 0).state == .running job21 0 && (t.src 20).input) = true := by
  decide +kernel

theorem test_transmit_move_sends_last_byte :
    after (.transmitMove now .a)
      (laneWith 1 { Lane.powerOn with state := .running { job21 with stopChar := none, length := 1 } 0 }
        { onLine with staging := [⟨0x100, 0x6C⟩] })
      (fun t => t.lineA.prog.tx == [0x6C] && (t.lane 1).records == [⟨0x21, .count, 1, true⟩]) = true := by
  decide +kernel

theorem test_full_list_makes_record_pending :
    after (.transmitMove now .a)
      (laneWith 1
        { Lane.powerOn with
          state := .running { job21 with stopChar := none, length := 1 } 0
          records := List.replicate 8 (record 7) } onLine)
      (fun t => (t.lane 1).state == .waitRecord ⟨0x21, .count, 1, true⟩ .continue && (t.src 37).input) = true := by
  decide +kernel

theorem test_record_read_places_pending_record :
    after (.tsqRecord now false 0)
      (laneWith 0
        { Lane.powerOn with
          state := .waitRecord ⟨0x22, .count, 4, true⟩ .continue
          records := List.replicate 8 (record 7) } onLine)
      (fun t => doneWith 0x00018107 t && (t.lane 0).state == .idle && !(t.src 37).input && (t.src 20).input) = true := by
  decide +kernel

theorem test_resume_halted_lane :
    after (.resume now false 0 0) (laneWith 0 { Lane.powerOn with state := .halted, queue := [job21] } onLine)
      (fun t => doneWith 0 t && (t.lane 0).state == .running job21 0 && (t.lane 0).queue == []) = true := by
  decide +kernel

theorem test_abort_counts_discarded :
    after (.abort now false 0 0) (laneWith 0 { Lane.powerOn with state := .running job21 3, queue := [job21, job21] } onLine)
      (fun t => (t.lane 0).state == .idle && (t.lane 0).discarded == 2 &&
        (t.lane 0).records == [⟨0x21, .aborted, 3, true⟩]) = true := by
  decide +kernel

theorem test_discarded_write_clears :
    after (.tsqDiscarded now false 0 3) (laneWith 0 { Lane.powerOn with discarded := 2 } onLine)
      (fun t => doneWith 0 t && (t.lane 0).discarded == 0) = true := by
  decide +kernel

/-! ### Timers (spec/08, worked sequence) -/

theorem test_tick_write_moves_origin :
    after (.ttmTick ⟨40, pins⟩ false 500) ready (fun t => doneWith 0 t && t.tick == ⟨500, 40⟩) = true := by
  decide +kernel

theorem test_start_from_zero :
    after (.start now true 2 0) (ready.setTimer 2 { timer2 false with state := .stopped })
      (fun t => (t.timer 2).state == .running && (t.timer 2).count == 0) = true := by
  decide +kernel

theorem test_stop_keeps_count :
    after (.stop now true 2 0) (ready.setTimer 2 (timer2 true))
      (fun t => (t.timer 2).state == .stopped && (t.timer 2).count == 499 && (t.timer 2).mark) = true := by
  decide +kernel

theorem test_ack_of_guarded_timer_protected :
    after (.ack now false 2 0) (ready.setTimer 2 (timer2 true)) (fun t => refusedWith 3 t && (t.timer 2).mark) = true := by
  decide +kernel

theorem test_ack_clears_mark :
    after (.ack now true 2 0) (ready.setTimer 2 (timer2 true)) (fun t => doneWith 0 t && !(t.timer 2).mark) = true := by
  decide +kernel

theorem test_timer_status_write_clears_lost :
    after (.ttmStatus now true 2 0) (ready.setTimer 2 { timer2 true with lost := 1 })
      (fun t => doneWith 0 t && (t.timer 2).lost == 0) = true := by
  decide +kernel

theorem test_tick_expires_periodic_timer :
    after (.tickStep now) (ready.setTimer 2 (timer2 false))
      (fun t => (t.timer 2).mark && (t.timer 2).count == 0 && (t.timer 2).state == .running && t.now == 32000) = true := by
  decide +kernel

theorem test_lost_expiry_escalates :
    after (.expiry now 2) (ready.setTimer 2 (timer2 true))
      (fun t => (t.timer 2).lost == 1 && (t.restart 1).state == .pulse 352000 && (t.restart 1).cause == .watchdog &&
        (t.restart 1).count == 1 && (t.out 1).rst && t.svc.sticky == 0x40 && t.svc.alert) = true := by
  decide +kernel

/-! ### Restart (spec/09, worked sequence) -/

theorem test_host_restart_pulses :
    after (.rscRestart now true 2) ready
      (fun t => doneWith 0 t && (t.restart 2) == ⟨.pulse 320000, 1, 0, .host⟩ && (t.out 2).rst) = true := by
  decide +kernel

theorem test_pulse_end :
    after (.pulseEnd now 3) (ready.setRestart 3 ⟨.pulse 320000, 1, 0, .host⟩)
      (fun t => (t.restart 3).state == .run && t.now == 320000 && !(t.out 3).rst) = true := by
  decide +kernel

theorem test_twentieth_sample_presses :
    after (.buttonSample ⟨1, { pins with restartIn := true }⟩)
      ((({ ready with rsc := ⟨10, 5, .pressing, 19⟩ } : State).setRestart 2 ⟨.held, 4, 0, .service⟩).setBell 0 ⟨1, true⟩)
      (fun t => (t.restart 0) == ⟨.pulse 352000, 1, 0, .button⟩ && (t.restart 2) == ⟨.held, 4, 1, .service⟩ &&
        t.rsc.phase == .pressed && !(t.bell 0).unread) = true := by
  decide +kernel

theorem test_button_press_row :
    after (.buttonPress ⟨1, { pins with restartIn := true }⟩) { ready with rsc := ⟨10, 1, .pressing, 19⟩ }
      (fun t => (t.restart 0).cause == .button && t.rsc.run == 0) = true := by
  decide +kernel

/-! ### Service port (spec/02, worked sequence) -/

theorem test_status_returns_posted_record :
    after (.status framed 0)
      { ready with svc := { ready.svc with posted := ⟨10, 0x11, 0⟩, sticky := 0x80, alert := true } }
      (returns 0x80 0x0000110A) = true := by
  decide +kernel

theorem test_read_of_unknown_item : after (.read framed 0x0E00) ready (returns 1 0) = true := by decide +kernel

theorem test_pop_returns_character :
    after (.pop framed 0) (ready.setLine .a { lineOn with owner := .service, serv := { lineOn.serv with rx := [char 0x73] } })
      (fun t => returns 0x00 0x73 t && t.lineA.serv.rx == []) = true := by
  decide +kernel

theorem test_snapshot_counts :
    after (.snapshot framed 0) nested
      (fun t => t.svc.snap.seq == 1 && t.svc.snap.src[0] == 0x00003000 && t.svc.snap.tgt[0] == 0x0000004E) = true := by
  decide +kernel

theorem test_write_of_alert_mask :
    after (.write framed 0x0901 0xFFFFFF7F) ready (fun t => t.svc.mask == 0xF7F && posts 0 0x10 0x0901 t) = true := by
  decide +kernel

theorem test_write_not_permitted :
    after (.write framed 0x0A00 1) ready (fun t => posts 7 0x10 0x0A00 t && t.svc.alert && t.staging == []) = true := by
  decide +kernel

theorem test_push_full_sets_alert :
    after (.push framed 0 0x42)
      (ready.setLine .a { lineOn with serv := { lineOn.serv with tx := List.replicate 32 0x41 } })
      (fun t => posts 10 0x11 0 t && t.svc.sticky == 0x80 && t.svc.alert) = true := by
  decide +kernel

theorem test_seize_line_permitted :
    after (.seizeLine framed 0 0) onLine (fun t => t.lineA.owner == .service && posts 0 0x20 0 t) = true := by
  decide +kernel

theorem test_seize_line_denied :
    after (.seizeLine framed 0 0) (ready.setLine .a { lineOn with lock := true, denied := 1 })
      (fun t => t.lineA.owner == .program && t.lineA.denied == 2 && t.svc.sticky == 0x90) = true := by
  decide +kernel

theorem test_yield_line :
    after (.yieldLine framed 0 0) seized (fun t => t.lineA.owner == .program && posts 0 0x21 0 t) = true := by
  decide +kernel

theorem test_ring_sets_doorbell :
    after (.ring framed 1 0xABCD) ready
      (fun t => t.bell 1 == ⟨0xABCD, true⟩ && (t.src 33).input && posts 0 0x30 1 t) = true := by
  decide +kernel

theorem test_ring_of_target_7_is_bad_value : after (.ring framed 7 0) ready (posts 4 0x30 7) = true := by decide +kernel

theorem test_restart_holds_pulsing_target :
    after (.restart framed 0x0100 0) (ready.setRestart 0 ⟨.pulse 352000, 1, 0, .button⟩)
      (fun t => (t.restart 0) == ⟨.held, 1, 0, .button⟩ && (t.out 0).rst && posts 0 0x31 0x0100 t) = true := by
  decide +kernel

theorem test_release_target :
    after (.releaseTarget framed 2 0) (ready.setRestart 2 ⟨.held, 4, 1, .service⟩)
      (fun t => (t.restart 2) == ⟨.run, 4, 1, .service⟩ && !(t.out 2).rst) = true := by
  decide +kernel

theorem test_hold_withdraws_offer :
    after (.hold framed 0x0100 0) offered (fun t => (t.tgt 0).hold && !(t.out 0).irq && posts 0 0x33 0x0100 t) = true := by
  decide +kernel

theorem test_alert_clear_releases_alert :
    after (.alertClear framed 0 0x80) { ready with svc := { ready.svc with sticky := 0x80, alert := true } }
      (fun t => t.svc.sticky == 0 && !t.svc.alert && posts 0 0x40 0 t) = true := by
  decide +kernel

theorem test_clear_all_ends_held_request :
    after (.clearAll framed 0 0) heldRead
      (fun t => refusedWith 14 t && t.host.flowCount == 0 && posts 0 0x7F 0 t && t.lineA == .powerOn) = true := by
  decide +kernel

theorem test_bad_command_posts :
    after (.badCommand framed 0x04 0x1234 0) ready (fun t => posts 15 0x04 0x1234 t && t.svc.sticky == 0x80) = true := by
  decide +kernel

theorem test_aborted_frame_counts :
    after (.abortedFrame framed) ready (fun t => t.svc.abortCount == 1 && t.svc.posted == ⟨0, 0, 0⟩) = true := by
  decide +kernel

/-! ### The bits of a frame and the order of steps (spec/02, section 2.1; spec/10, section 10.2) -/

/-- The 24th bit of a frame of zeros makes it STATUS with argument 0, which runs at once (R20, R21). -/
theorem test_bit_23_runs_status :
    (match step (sampling (List.replicate 23 false) true false
        { ready with svc := { ready.svc with posted := ⟨4, 0x30, 7⟩ } }) with
      | .next t => returns 0x00 0x00073004 t && t.svc.clk
      | _ => false) = true := by
  decide +kernel

/-- RESTART of target 2 in mode 1: bytes 0x31, 0x01, 0x02; the last bit of byte 7 makes it due (R20, R21). -/
def restartBits : List Bool :=
  [false, false, true, true, false, false, false, true] ++ [false, false, false, false, false, false, false, true] ++
    [false, false, false, false, false, false, true, false] ++ List.replicate 39 true

theorem test_bit_63_makes_restart_due :
    let s := (sampling restartBits true false ready).look
    s.frameCommand = some (.restart s.here 0x0102 0xFFFFFFFE) ∧ (sampling restartBits false false ready).look.frameCommand = none := by
  decide +kernel

/-- A tick that sets WATCHDOG at the instant of bit 23 is seen in bit 7 of the status byte and, at the beginning of a frame,
in the summary (R20, R22, R152). -/
def escalating (s : State) : State :=
  { s with now := 32000, sched := { s.sched with lastMilli := 1, lastMicro := 1000 } }.setTimer 2 (timer2 true)

theorem test_status_byte_follows_the_tick_of_its_instant :
    (match step (escalating (sampling (restartBits.take 23) true false ready)) with
      | .next t => t.look.svc.frame.any fun f => f.status == some 0xC0
      | _ => false) = true := by
  decide +kernel

theorem test_summary_follows_the_tick_of_its_instant :
    (match step (escalating { ready with pins := { pinsAtRest with svcSel := true } }) with
      | .next t => t.look.svc.frame.any fun f => f.summary == 0x88
      | _ => false) = true := by
  decide +kernel

/-- The release of SVC_SEL after 63 bits calls for an abort count, and leaves SVC_DOUT low (R19, R24). -/
theorem test_release_before_bit_63_aborts :
    let s := { sampling restartBits false true ready with pins := pinsAtRest }.look
    s.svc.frame = none ∧ s.svc.aborts = 1 ∧ s.svcDout = false ∧ nextLate s = some (.abortedFrame s.here) := by
  decide +kernel

/-- No command executes in the wait of R19, though the release comes with it. -/
theorem test_no_command_before_the_release :
    after (.write now 0x0901 0) { ready with svc := { ready.svc with waitRelease := true, sel := true } }
      (fun t => t.svc.mask == 0xFFF && t.svc.posted == ⟨0, 0, 0⟩ && t.svc.frame == none && !t.svc.waitRelease) = true := by
  decide +kernel

/-- A start that a transmit move made due comes ahead of the moves that are left (R90, R152). -/
theorem test_start_ahead_of_remaining_moves :
    let s := laneWith 1 { Lane.powerOn with state := .running { job21 with stopChar := none } 1 } (withTx [0x41])
    nextEarly { s with sched := { s.sched with passed8 := true, moved := [1] } } = some (.transmitterStart s.here .a) := by
  decide +kernel

/-- Line A's receiver completion is taken before line B's, however they are presented (R113). -/
theorem test_line_a_before_line_b :
    (ready.present [.receiverCompletion now .b none, .receiverCompletion now .a none]).pending =
      [.receiverCompletion now .a none, .receiverCompletion now .b none] := by
  decide

/-- A frame that a clear of the same instant discarded is not delivered (R83, R114). -/
theorem test_frame_discarded_by_clear :
    after (.lineClear later true .a 0) onLine
      (fun t => after (.receiverCompletion now .a (some ⟨0x1C, false, true⟩)) t fun v => v.lineA.owner == .program) = true := by
  decide +kernel

/-- HREQ asserted on an idle port begins the transaction that the pins show (R1). -/
theorem test_hreq_begins_a_transaction :
    nextLate { ready with pins := { pins with hitem := 0x0001, hwr := true, hpriv := true, hdata := 50 } } =
      some (.hostTransactionBegin ⟨0, { pins with hitem := 0x0001, hwr := true, hpriv := true, hdata := 50 }⟩ true true
        0x0001 50) := by
  decide +kernel

/-! ### Every statement's hypotheses are met -/

/-- The hub with this host phase. -/
def withPhase (p : HostPhase) (s : State) : State := { s with host := { s.host with phase := p } }

theorem hostFree_of {s : State} (h : s.inReset = false) (g : s.heldRequest = none) : s.hostFree := ⟨h, g⟩

theorem witness_StepRunsTheFrontCommand :
    ({ ready with pending := [.tickStep now] } : State).pending = .tickStep now :: [] := rfl

theorem witness_EmptyQueue :
    (({ ready with inReset := true } : State).pending = [] ∧ ({ ready with inReset := true } : State).inReset = true) ∧
    ready.pending = [] ∧
    (let moving := laneWith 0 { Lane.powerOn with state := .running job21 0 } (withRx [char 0x6C])
     nextEarly { moving with sched := { moving.sched with passed8 := true } } = some (.receiveMove moving.here .a) ∧
      nextEarly moving = none ∧ nextLate moving.look = some (.receiveMove moving.here .a)) ∧
    (nextEarly State.reset = none ∧ nextLate State.reset.look = none) ∧
    after (.tickStep now) ready (fun t => t.pending == [] && t.coming == []) = true := by
  decide +kernel

theorem complete_of {f : Frame} (h : f.executed = false)
    (g : (if f.code.toNat < 4 then 24 else 64) ≤ f.bits.length) : f.complete := ⟨h, g⟩

/-- A frame whose command is due, one that is not yet due, and none. -/
theorem witness_EmptyQueue_frames :
    (∃ f, (sampling (List.replicate 24 false) false false ready).svc.frame = some f ∧ f.complete) ∧
      (∀ f, (sampling (List.replicate 23 false) false false ready).svc.frame = some f → ¬ f.complete) ∧
      ∀ f, ready.svc.frame = some f → ¬ f.complete := by
  refine ⟨⟨_, rfl, complete_of rfl (by decide)⟩, ?_, ?_⟩
  · rintro f hf h; cases hf; revert h; unfold Frame.complete; decide
  · rintro f hf; cases hf

theorem witness_LowReset :
    ({ ready with inReset := true } : State).inReset = true ∧ (Instr.tgtTake now false 0).isReset = false := by decide

theorem witness_Released :
    ({ ready with inReset := true } : State).inReset = true ∧ State.reset.inReset = false := by decide

theorem settled_ready : Settled ready := by
  refine ⟨?_, ?_, ?_, rfl, rfl⟩ <;> decide +kernel

theorem witness_EndOfAnUnchangedStep : Settled ready := settled_ready

/-- The bounds of the status words at their limits, with and without a candidate, a stack entry, a job, a pulse. -/
theorem witness_DispatchWord :
    ((8 : Nat) ≤ 8 ∧ (0 : Nat) ≤ 8) ∧
      ((nested.tgt 0).stack.length ≤ 8 ∧ (nested.tgt 0).urgent.length ≤ 4 ∧ (urgentReady.tgt 2).urgent.length ≤ 4) ∧
      (offered.candidate 0 = some 4 ∧ offered.candidate 1 = none) ∧
      ((nested.tgt 0).stack[2 * (0 : Fin 4).val + (1 : Fin 2).val]? = some (19, 14) ∧
        (nested.tgt 0).stack[2 * (1 : Fin 4).val + (0 : Fin 2).val]? = none) ∧
      ((urgentReady.tgt 2).urgent[(1 : Fin 4).val]? = some 17 ∧ (urgentReady.tgt 2).urgent[(2 : Fin 4).val]? = none) ∧
      (onLine.line .a).Ok ∧
      (∀ ends, (State.reset.restart 0).state = .pulse ends → ends ≤ State.reset.now + 255 * 32000) ∧ ready.rsc.run < 256 := by
  refine ⟨by decide, by decide +kernel, by decide +kernel, by decide +kernel, by decide +kernel,
    ⟨by decide, by decide, by decide, by decide, by decide, by decide⟩, ?_, by decide⟩
  rintro ends h; cases h; decide

/-- A lane as R118 says in RUNNING, and one in another state. -/
theorem witness_LaneWords :
    let busy := laneWith 0 { Lane.powerOn with state := .running job21 63 } onLine
    (busy.lane 0).Ok ∧ (busy.lane 0).state = .running job21 63 ∧ ∀ j k, (busy.lane 1).state ≠ .running j k := by
  have ok : job21.admissible := by unfold Job.admissible; decide
  refine ⟨⟨by decide, by decide, ?_, ?_, ?_, ?_⟩, rfl, ?_⟩
  · intro h; cases h
  · intro r o h; cases h
  · intro j h; cases h
  · intro j k h; cases h; exact ⟨ok, by decide⟩
  · intro j k h; cases h

theorem witness_HostRows :
    (Instr.tgtDone now true 3 19).access = some (true, true, 0x0232, 19) ∧
      (Instr.lineRx now false .b).access = some (false, false, 0x0406, 0) ∧
      heldRead.inReset = false ∧ heldRead.heldRequest ≠ none := by
  decide

theorem witness_Visibility :
    ready.hostFree ∧ decodeItem 0xFFFF = none ∧
      (decodeItem 0x0800 = some (.snap 0) ∧ hostAccess (.snap 0) = .none) ∧
      (decodeItem 0x0000 = some (.hub .ident) ∧ hostAccess (.hub .ident) = .read) ∧
      (decodeItem 0x0302 = some (.line .a .start) ∧ hostAccess (.line .a .start) = .write) ∧
      (decodeItem 0x0001 = some (.hub .waitLimit) ∧ hostAccess (.hub .waitLimit) = .readWrite) ∧
      ({ ready with host := { ready.host with fault := ⟨1, 3, true, false, false, 1⟩ } } : State).host.fault.count ≠ 0 := by
  refine ⟨⟨rfl, rfl⟩, ?_⟩; decide

theorem witness_FirstProgrammingRefusal :
    ready.hostFree ∧ ready.host.fault.count = 0 ∧
      after (.hostTransactionBegin now true false 0x0001 50) ready
        (fun t => t.host.hrefuse && decide (1 ≤ t.host.hdata.toNat) && decide (t.host.hdata.toNat ≤ 6)) = true ∧
      after (.heldRequestCompletion now) { seized with host := heldRead.host } (fun t => t.host.hrefuse) = true ∧
      after (.waitLimitExpiry now) heldRead (fun t => t.host.hrefuse) = true := by
  refine ⟨⟨rfl, rfl⟩, ?_⟩; decide +kernel

/-- The fault record is occupied, its count one below its limit. -/
def faulted (n : Byte) : State := { ready with host := { ready.host with fault := ⟨1, 3, true, false, true, n⟩ } }

theorem witness_FurtherProgrammingRefusals :
    (faulted 254).hostFree ∧ (faulted 255).host.fault.count ≠ 0 ∧ now.pins.hreq = true ∧
      after (.hostTransactionBegin now true true 0x0000 0) (faulted 255)
        (fun t => t.host.hrefuse && decide (t.host.hdata = 2) && decide (t.host.fault.count = 255)) = true ∧
      after (.hostTransactionBegin now true true 0x0000 0) (faulted 254)
        (fun t => t.host.hrefuse && decide (t.host.fault.count = 255)) = true := by
  refine ⟨⟨rfl, rfl⟩, ?_⟩; decide +kernel

theorem witness_RefusedTransaction :
    ready.hostFree ∧ after (.hostTransactionBegin now false false 0x0406 0) ready
      (fun t => t.host.hrefuse && decide (t.host.hdata = 9)) = true := by
  refine ⟨⟨rfl, rfl⟩, ?_⟩; decide +kernel

theorem witness_HostWriteChecks :
    ready.hostFree ∧ (decodeItem 0x0800 = some (.snap 0) ∧ hostAccess (.snap 0) = .none) ∧
      (decodeItem 0x0000 = some (.hub .ident) ∧ hostAccess (.hub .ident) = .read) ∧
      (decodeItem 0x0302 = some (.line .a .start) ∧ ready.needsPriv (.line .a .start) 0 = true) ∧
      (ready.badValue (.hub .waitLimit) 256 = true ∧ ready.badValue (.hub .waitLimit) 255 = false) ∧
      (decodeItem 0x0300 = some (.line .a .format) ∧ onLine.writeRefusal (.line .a .format) 0 = some .notIdle) := by
  refine ⟨⟨rfl, rfl⟩, ?_⟩; decide +kernel

theorem witness_WaitingItems :
    (onLine.hostFree ∧ onLine.heldRequest = none) ∧
      ((laneWith 0 { Lane.powerOn with state := .halted } onLine).lane (rxLane .a)).state ≠ .idle ∧
      ((laneWith 1 { Lane.powerOn with state := .halted } onLine).lane (txLane .a)).state ≠ .idle ∧
      ((withRx [char 1]).line .a).prog.rx = char 1 :: [] ∧
      ((seized.line .a).prog.rx = [] ∧ (seized.line .a).owner ≠ .program) ∧
      ((onLine.line .a).prog.rx = [] ∧ onLine.host.waitLimit = 0) ∧
      (heldRead.host.waitLimit = 0 ∧ ({ onLine with host := { onLine.host with waitLimit := 255 } } : State).host.waitLimit ≠ 0) ∧
      ((withTx (List.replicate 31 0)).line .a).prog.tx.length < 32 ∧
      32 ≤ ((withTx (List.replicate 32 0)).line .a).prog.tx.length := by
  refine ⟨⟨⟨rfl, rfl⟩, rfl⟩, ?_⟩; decide +kernel

theorem witness_HeldRequest :
    (heldRead.inReset = false ∧ heldRead.heldRequest = some ⟨.a, false, 0, 0, 200⟩) ∧
      ((laneWith 0 { Lane.powerOn with state := .halted } heldRead).lane (rxLane .a)).state ≠ .idle ∧
      (heldRead.lane (rxLane .a)).state = .idle ∧ (heldRead.line .a).prog.rx = [] ∧
      ({ withRx [char 1] with host := heldRead.host } : State).heldRequest = some ⟨.a, false, 0, 0, 200⟩ ∧
      (({ seized with host := heldRead.host } : State).line .a).owner ≠ .program ∧
      (0 + (200 : Byte).toNat * 32 ≤ (heldRead.enter ⟨6400, pins⟩).now ∧ (heldRead.enter ⟨6399, pins⟩).now < 6400) ∧
      (heldWrite.heldRequest = some ⟨.a, true, 0x42, 0, 200⟩ ∧ 32 ≤ (heldWrite.line .a).prog.tx.length) ∧
      ((({ withTx (List.replicate 31 0) with host := heldWrite.host } : State).line .a).prog.tx.length < 32) := by
  decide +kernel

theorem witness_HubControl : ready.hostFree ∧ (255 : Word).toNat ≤ 255 ∧ 255 < (256 : Word).toNat := by
  refine ⟨⟨rfl, rfl⟩, ?_⟩; decide

theorem witness_HubId : ready.hostFree ∧ ready.svcFree framed := ⟨⟨rfl, rfl⟩, rfl, rfl⟩

theorem witness_SrcEntry :
    let accepted (s : State) (i : SourceId) (w : Word) : Bool :=
      (!(s.src i).entry.enable && decide ((s.src i).state = .idle)) ||
        decide ({ entryOfWord w with enable := (s.src i).entry.enable } = (s.src i).entry)
    ready.hostFree ∧ (entryOfWord 0x10000001).trigger ≠ .edge ∧ fixedEdge 16 = true ∧
      ((entryOfWord 0x0000010B).cls = .urgent ∧ (entryOfWord 0x0000010B).spreadMode = true) ∧
      ((entryOfWord 0x00000009).spreadMode = true ∧ (entryOfWord 0x00000009).spread = 0) ∧
      accepted ready 5 0x450C0015 = true ∧
      accepted (ready.setSrc 5 ⟨entry5, .pending, false, 0⟩) 5 0x450C0014 = true ∧
      accepted (ready.setSrc 5 ⟨entry5, .pending, false, 0⟩) 5 0x440C0015 = false := by
  refine ⟨⟨rfl, rfl⟩, ?_⟩; decide +kernel

theorem witness_NormalSources :
    (ready.src 0).entry.cls = .normal ∧ (ready.src 0).entry.enable = false ∧
      ((entryOfWord 0x00000001).enable = true ∧ (entryOfWord 0x00000001).trigger = .level) ∧
      (entry5.enable = true ∧ entry5.trigger = .edge ∧ entry5.cls = .normal) := by
  decide

theorem witness_UrgentArrivals :
    let u : State := { urgentReady with raised := [11, 3, 9] }
    u.raised.Nodup ∧ (u.tgt 2).urgent.length ≤ 4 ∧ u.arrivals 2 = [3, 9, 11] ∧ (u.src 16).state = .queued 2 ∧
      ((u.src 16).entry.enable = true ∧ (u.src 16).entry.cls = .urgent) ∧
      (u.setTgt 2 { Target.powerOn with urgent := [16, 17, 3, 9] }).arrivals 2 = [3, 9, 11] := by
  decide +kernel

theorem witness_Xr : ready.inReset = false := rfl

theorem witness_Candidate :
    offered.candidate 0 = some 4 ∧ ready.candidate 0 = none := by decide +kernel

theorem witness_Offer :
    offered.offer 0 = some 4 ∧ offered.offer 1 = none ∧ (offered.tgt 0).stack = [] ∧
      (nested.tgt 0).stack = [(4, 6)] ++ [(19, 14)] := by
  decide +kernel

theorem witness_Take :
    offered.hostFree ∧ (State.reset.restart 0).state ≠ .run ∧ ((offered.restart 1).state = .run ∧ offered.offer 1 = none) ∧
      offered.offer 0 = some 4 := by
  refine ⟨⟨rfl, rfl⟩, ?_⟩; decide +kernel

theorem witness_TakenSource :
    offered.hostFree ∧ offered.offer 0 = some 4 ∧ after (.tgtTake now false 0) offered (fun _ => true) = true := by
  refine ⟨⟨rfl, rfl⟩, ?_⟩; decide +kernel

theorem witness_UrgentTake :
    urgentReady.hostFree ∧ (State.reset.restart 2).state ≠ .run ∧
      ((urgentReady.restart 0).state = .run ∧ (urgentReady.tgt 0).urgent = []) ∧
      ((urgentReady.restart 2).state = .run ∧ (urgentReady.tgt 2).urgent = 16 :: [17]) := by
  refine ⟨⟨rfl, rfl⟩, ?_⟩; decide +kernel

theorem witness_Done :
    nested.hostFree ∧ State.reset.hostFree ∧ 38 ≤ ((63 : Word).extractLsb' 0 6).toNat ∧
      38 ≤ ((38 : Word).extractLsb' 0 6).toNat ∧
      (((37 : Word).extractLsb' 0 6).toNat < 38 ∧ (State.reset.restart 0).state ≠ .run) ∧
      ((37 : SourceId).val = ((37 : Word).extractLsb' 0 6).toNat ∧ (37 : SourceId) ∉ (nested.tgt 0).stack.map (·.1)) ∧
      ((19 : SourceId).val = ((0x20020E13 : Word).extractLsb' 0 6).toNat ∧
        (19 : SourceId) ∈ (nested.tgt 0).stack.map (·.1) ∧ (nested.restart 0).state = .run) := by
  refine ⟨⟨rfl, rfl⟩, ⟨rfl, rfl⟩, ?_⟩; decide +kernel

theorem witness_TargetSettings :
    ready.hostFree ∧ (ready.restart 0).state = .run ∧ (State.reset.restart 0).state ≠ .run ∧
      ((4 : Word).extractLsb' 0 3).toNat ≤ 4 ∧ 4 < ((5 : Word).extractLsb' 0 3).toNat := by
  refine ⟨⟨rfl, rfl⟩, ?_⟩; decide

theorem witness_Doorbells :
    ready.hostFree ∧ ready.svcFree framed ∧ ((3 : BitVec 16).toNat = (3 : TargetId).val ∧ (ready.bell 3).unread = false) ∧
      ((ready.setBell 3 ⟨1, true⟩).bell 3).unread = true ∧ 4 ≤ (4 : BitVec 16).toNat := by
  refine ⟨⟨rfl, rfl⟩, ⟨rfl, rfl⟩, ?_⟩; decide

theorem witness_LinesStartAndStop :
    (onLine.hostFree ∧ (onLine.line .a).state = .running) ∧ (ready.svcFree framed ∧ (ready.line .a).state ≠ .running) :=
  ⟨⟨⟨rfl, rfl⟩, rfl⟩, ⟨rfl, rfl⟩, by decide⟩

theorem witness_LineClear :
    onLine.hostFree ∧ onLine.svcFree framed ∧ heldRead.svcFree framed ∧ (∀ h, onLine.heldRequest = some h → h.line ≠ .a) ∧
      (∀ h, heldRead.heldRequest = some h → h.line ≠ .b) ∧ heldRead.heldRequest = some ⟨.a, false, 0, 0, 200⟩ := by
  refine ⟨⟨rfl, rfl⟩, ⟨rfl, rfl⟩, ⟨rfl, rfl⟩, ?_, ?_, rfl⟩
  · intro h hh; cases hh
  · intro h hh; cases hh; decide

theorem witness_CharacterQueues :
    (withRx [char 1]).hostFree ∧ ready.svcFree framed ∧
      ((laneWith 0 { Lane.powerOn with state := .halted } onLine).lane (rxLane .a)).state ≠ .idle ∧
      ((onLine.lane (rxLane .a)).state = .idle ∧ (onLine.line .a).prog.rx = []) ∧
      ((withRx [char 1]).line .a).prog.rx = char 1 :: [] ∧
      ((laneWith 1 { Lane.powerOn with state := .halted } onLine).lane (txLane .a)).state ≠ .idle ∧
      32 ≤ ((withTx (List.replicate 32 0)).line .a).prog.tx.length ∧
      ((withTx (List.replicate 31 0)).line .a).prog.tx.length < 32 ∧ (ready.line .a).serv.rx = [] ∧
      2 ≤ (2 : BitVec 16).toNat ∧ (31 : Nat) ≤ 31 := by
  refine ⟨⟨rfl, rfl⟩, ⟨rfl, rfl⟩, ?_⟩; decide

theorem witness_ServiceQueues :
    let full := ready.setLine .a { lineOn with serv := { lineOn.serv with rx := [char 1], tx := List.replicate 32 0 } }
    full.svcFree framed ∧ (full.line .a).serv.rx = char 1 :: [] ∧ 32 ≤ (full.line .a).serv.tx.length ∧
      (ready.line .a).serv.tx.length < 32 := by
  refine ⟨⟨rfl, rfl⟩, ?_⟩; decide

theorem witness_LineSettings :
    let ok (w : Word) : Bool :=
      decide (1 ≤ ((w.extractLsb' 0 6 : BitVec 6)).toNat ∧ ((w.extractLsb' 0 6 : BitVec 6)).toNat ≤ 32 ∧
        1 ≤ ((w.extractLsb' 8 6 : BitVec 6)).toNat ∧ ((w.extractLsb' 8 6 : BitVec 6)).toNat ≤ 32)
    ready.hostFree ∧ ready.svcFree framed ∧ (0x300 : Word).extractLsb' 8 2 = 3#2 ∧
      ((0x200 : Word).extractLsb' 8 2 ≠ 3#2 ∧ (onLine.line .a).state ≠ .stopped ∧ (ready.line .a).state = .stopped) ∧
      ok 0x2001 = true ∧ ok 0x2101 = false ∧ ok 0x0100 = false ∧
      (ctlOfWord 0x011E1D1C).seize ≠ (ctlOfWord 0x011E1D1C).yield ∧
      (ctlOfWord 0x011E1C1C).seize = (ctlOfWord 0x011E1C1C).yield ∧
      (ctlOfWord 0x011C1D1C).seize = (ctlOfWord 0x011C1D1C).attention ∧
      (ctlOfWord 0x011D1D1C).yield = (ctlOfWord 0x011D1D1C).attention := by
  refine ⟨⟨rfl, rfl⟩, ⟨rfl, rfl⟩, ?_⟩; decide

theorem witness_Ownership :
    onLine.hostFree ∧ onLine.svcFree framed ∧ seized.hostFree ∧ seized.svcFree framed ∧
      (onLine.line .a).owner = .program ∧ (seized.line .a).owner = .service ∧
      (now.pins.seizePermit = true ∧ (onLine.line .a).lock = false) ∧ denying.pins.seizePermit = false ∧
      2 ≤ (2 : BitVec 16).toNat :=
  ⟨⟨rfl, rfl⟩, ⟨rfl, rfl⟩, ⟨rfl, rfl⟩, ⟨rfl, rfl⟩, rfl, rfl, ⟨rfl, rfl⟩, rfl, by decide⟩

theorem witness_ReceiverCompletion :
    let f : Format := ⟨3, false, .none, false⟩
    ready.inReset = false ∧ (ready.line .a).state ≠ .running ∧
      ((onLine.line .a).state = .running ∧ ∀ r, (onLine.line .a).rx.phase ≠ .complete r) ∧
      (judge f ⟨0x1C, false, true⟩ = ⟨0x1C, false, false, false⟩ ∧ (onLine.line .a).ctl.recognition = true ∧
        (onLine.line .a).ctl.seize = 0x1C ∧ (onLine.line .a).ctl.yield = 0x1D ∧
        (onLine.line .a).ctl.attention = 0x1E) ∧
      judge f ⟨0, false, false⟩ = ⟨0, false, false, true⟩ ∧
      ((ready.setLine .a { lineOn with rx := ⟨.complete ⟨1, false, true⟩, 0, 0, 0⟩ }).line .a).rx.phase =
        .complete ⟨1, false, true⟩ ∧
      ((onLine.line .a).owner = .program ∧ (seized.line .a).owner = .service) ∧
      (now.pins.seizePermit = true ∧ denying.pins.seizePermit = false ∧ (onLine.line .a).lock = false) ∧
      ((onLine.line .a).rx.fresh + (8 + 16 * 9) * bitTime f.rate / 16 ≤ (onLine.enter later).now ∧
        ¬ (onLine.line .a).rx.fresh + (8 + 16 * 9) * bitTime f.rate / 16 ≤ (onLine.enter now).now) := by
  refine ⟨rfl, by decide, ⟨rfl, ?_⟩, by decide +kernel⟩
  intro r h; cases h

/-- Line A RUNNING with its receiver in this condition. -/
def inPhase (p : RxPhase) : State := ready.setLine .a { lineOn with rx := ⟨p, 0, 0, 0⟩ }

theorem witness_ReceiverSample :
    ready.inReset = false ∧ (ready.line .a).state ≠ .running ∧ ((inPhase .off).line .a).state = .running ∧
      ((inPhase .off).line .a).rx.phase = .off ∧ ((inPhase .waitMark).line .a).rx.phase = .waitMark ∧
      ((inPhase .hunting).line .a).rx.phase = .hunting ∧ ((inPhase (.checking 7)).line .a).rx.phase = .checking 7 ∧
      ((inPhase (.inFrame 15 [true])).line .a).rx.phase = .inFrame 15 [true] ∧
      ((inPhase (.complete ⟨1, false, true⟩)).line .a).rx.phase = .complete ⟨1, false, true⟩ ∧
      ((inPhase (.postBreak 15)).line .a).rx.phase = .postBreak 15 := by
  decide

theorem witness_Transmitter :
    let serving := ready.setLine .a { lineOn with owner := .service, serv := { lineOn.serv with tx := [1] } }
    let sending := ready.setLine .a { lineOn with tx := some ⟨1, 0⟩ }
    ready.inReset = false ∧ ((withTx [1]).line .a).prog.tx = 1 :: [] ∧ ((withTx [1]).line .a).tx = none ∧
      ((withTx [1]).line .a).state = .running ∧ (serving.line .a).serv.tx = 1 :: [] ∧ (serving.line .a).owner = .service ∧
      (onLine.line .a).prog.tx = [] ∧ (sending.line .a).tx = some ⟨1, 0⟩ := by
  decide

/-- The pin at the last period of a character's last bit, right after it, and while the transmitter is idle. -/
theorem witness_TransmitPin :
    let sending (now : Nat) : State := { ready.setLine .a { lineOn with tx := some ⟨1, 0⟩ } with now := now }
    (sending 0).inReset = false ∧ (ready.line .a).tx = none ∧ ((sending 0).line .a).tx = some ⟨1, 0⟩ ∧
      (let sent := lineOn.format.sentBits 1
       let bt := bitTime lineOn.format.rate
       sent.length = 10 ∧ (0 + 9 * bt ≤ (sending (10 * bt - 1)).now ∧ (sending (10 * bt - 1)).now < 0 + (9 + 1) * bt) ∧
        0 + sent.length * bt ≤ (sending (10 * bt)).now) := by
  decide

/-- Samples of a frame with parity, and a sent frame of each parity. -/
theorem witness_Frames :
    [true, false, false, false, false, false, false, true, true].length = 7 + 1 + 1 ∧
      (⟨3, true, .even, false⟩ : Format).parity = .even ∧ (⟨3, true, .odd, false⟩ : Format).parity = .odd ∧
      1 + 7 + 1 < ((⟨3, true, .even, true⟩ : Format).sentBits 1).length := by
  decide

/-- Written words with each parity code. -/
theorem witness_SettingsWords :
    field (0x003 : Word) 8 2 = 0 ∧ field (0x103 : Word) 8 2 = 1 ∧ field (0x203 : Word) 8 2 = 2 ∧
      hostAccess (.tgt 0 .done) = .write := by
  decide

theorem witness_Submission :
    let lane (a : Assembly) (q : List Job) (st : LaneState) : State :=
      laneWith 0 { Lane.powerOn with asm := a, queue := q, state := st } onLine
    onLine.hostFree ∧ ((lane assembly21 [] .idle).lane 0).state = .idle ∧
      ¬ 4096 < ({ assembly21 with offset := 4095, length := 1 } : Assembly).offset.toNat + 1 ∧
      4096 < ({ assembly21 with offset := 4095 } : Assembly).offset.toNat + 2 ∧
      8 ≤ ((lane assembly21 (List.replicate 8 job21) (.running job21 0)).lane 0).queue.length ∧
      ((lane assembly21 (List.replicate 7 job21) (.running job21 0)).lane 0).queue.length < 8 ∧
      ((lane assembly21 [] .halted).lane 0).state ≠ .idle ∧ (ready.lane 0).asm.length = 0 ∧
      (((1 : LaneId).val = 1 ∨ (1 : LaneId).val = 3) ∧ assembly21.stopPresent = true) := by
  refine ⟨⟨rfl, rfl⟩, ?_⟩; decide

theorem witness_ResumeAndAbort :
    let halted (q : List Job) : State := laneWith 0 { Lane.powerOn with state := .halted, queue := q } onLine
    onLine.hostFree ∧ ((halted []).lane 0).state = .halted ∧ ((halted []).lane 0).queue = [] ∧
      ((halted [job21]).lane 0).queue = job21 :: [] ∧ (onLine.lane 0).state ≠ .halted ∧
      ((0 : BitVec 2) = 0 ∨ (0 : BitVec 2) = 3) := by
  refine ⟨⟨rfl, rfl⟩, ?_⟩; decide

theorem witness_Records :
    let lane (st : LaneState) : State :=
      laneWith 0 { Lane.powerOn with state := st, records := List.replicate 8 (record 7) } onLine
    onLine.hostFree ∧ (onLine.lane 0).records = [] ∧
      ((lane .idle).lane 0).records = record 7 :: List.replicate 7 (record 7) ∧
      (∀ p o, ((lane .idle).lane 0).state ≠ .waitRecord p o) ∧
      ((lane (.waitRecord (record 8) .halt)).lane 0).state = .waitRecord (record 8) .halt ∧
      ((lane (.waitRecord (record 8) .continue)).lane 0).state = .waitRecord (record 8) .continue ∧
      (8 : Nat) ≤ 8 ∧ (4096 : Nat) ≤ 4096 := by
  refine ⟨⟨rfl, rfl⟩, rfl, rfl, ?_, rfl, rfl, by decide, by decide⟩
  intro p o h; cases h

theorem witness_Moves :
    let rx (k : Nat) (j : Job) : State := laneWith 0 { Lane.powerOn with state := .running j k } (withRx [char 1])
    let tx (k : Nat) (j : Job) : State := laneWith 1 { Lane.powerOn with state := .running j k } (withTx [])
    let last : Job := { job21 with offset := 4095, length := 1 }
    ready.inReset = false ∧ StagingInv ready ∧ ((rx 0 last).lane (rxLane .a)).state = .running last 0 ∧
      ((rx 0 last).line .a).prog.rx = char 1 :: [] ∧ last.offset.toNat + 0 < 4096 ∧ 4096 ≤ last.offset.toNat + 1 ∧
      (onLine.line .a).prog.rx = [] ∧ (∀ j k, (onLine.lane (rxLane .a)).state ≠ .running j k) ∧
      ((tx 0 last).lane (txLane .a)).state = .running last 0 ∧ ((tx 1 last).lane (txLane .a)).state = .running last 1 ∧
      32 ≤ ((withTx (List.replicate 32 0)).line .a).prog.tx.length := by
  refine ⟨rfl, rfl, rfl, rfl, by decide, by decide, rfl, ?_, rfl, rfl, by decide⟩
  intro j k h; cases h

theorem witness_Staging : ready.hostFree ∧ StagingInv ready ∧ 4095 / 4 = (1023 : Fin 1024).val ∧ (3 : Nat) < 4 :=
  ⟨⟨rfl, rfl⟩, rfl, rfl, by decide⟩

theorem witness_TimerCommands :
    ready.hostFree ∧ (ready.timer 0).guard = false ∧ ((ready.setTimer 2 (timer2 true)).timer 2).guard = true := by
  refine ⟨⟨rfl, rfl⟩, ?_⟩; decide

theorem witness_TimerSettings :
    let s := ready.setTimer 2 (timer2 true)
    s.hostFree ∧ (0x10000 : Word).extractLsb' 0 16 = 0#16 ∧ (1 : Word).extractLsb' 0 16 ≠ 0#16 ∧
      (s.timer 2).state = .running ∧ (∀ k, (ready.timer k).state ≠ .running) ∧ (s.timer 2).guard = true ∧
      ((2 : Word).getLsbD 1 ≠ (ready.timer 0).guard) ∧ (0 : Word).getLsbD 0 ≠ (s.timer 2).periodic ∧
      (0x01000000 : Word).extractLsb' 0 24 = 0#24 := by
  refine ⟨⟨rfl, rfl⟩, ?_⟩; decide

theorem witness_TickStep :
    let s := ready.setTimer 2 (timer2 true)
    s.inReset = false ∧ ((s.timer 2).state = .running ∧ (s.timer 2).count + 1 = (s.timer 2).limit) ∧
      (s.timer 0).state ≠ .running := by
  decide

theorem witness_Restart :
    ready.hostFree ∧ ready.svcFree framed ∧ (3 : BitVec 16).toNat = (3 : TargetId).val ∧
      (0x0103 : BitVec 16).toNat = 256 + (3 : TargetId).val ∧ 4 ≤ (0x0104 : BitVec 16).toNat % 256 ∧
      512 ≤ (0x0200 : BitVec 16).toNat ∧ (State.reset.restart 0).state = .pulse 320000 ∧
      (∀ ends, (ready.restart 0).state ≠ .pulse ends) := by
  refine ⟨⟨rfl, rfl⟩, ⟨rfl, rfl⟩, rfl, rfl, by decide, by decide, rfl, ?_⟩
  intro e h; cases h

theorem witness_Button :
    let s : State := { ready with rsc := ⟨10, 5, .pressing, 19⟩ }
    s.inReset = false ∧ (s.rsc.phase = .pressing ∧ s.rsc.run + 1 = 20) ∧ ready.rsc.phase ≠ .pressing ∧ ready.hostFree ∧
      ready.svcFree framed ∧ (0x100 : Word).extractLsb' 0 8 = 0#8 ∧ (255 : Word).extractLsb' 0 8 ≠ 0#8 :=
  ⟨rfl, ⟨rfl, rfl⟩, by decide, ⟨rfl, rfl⟩, ⟨rfl, rfl⟩, by decide, by decide⟩

theorem witness_ServiceReads :
    ready.svcFree framed ∧ decodeItem 0xFFFF = none ∧
      (decodeItem 0x0A00 = some (.staging 0) ∧ svcAccess (.staging 0) = .none) ∧
      (decodeItem 0x0000 = some (.hub .ident) ∧ svcAccess (.hub .ident) ≠ .none) ∧
      (∀ k, (nested.tgt k).stack.length ≤ 8 ∧ (nested.tgt k).urgent.length ≤ 4) := by
  refine ⟨⟨rfl, rfl⟩, ?_⟩; decide

theorem witness_ServiceWrites :
    ready.svcFree framed ∧ ready.inReset = false ∧ ready.svc.waitRelease = false ∧ svcAccess (.hub .ident) = .read ∧
      (svcAccess (.rsc .width) = .readWrite ∧ ready.badValue (.rsc .width) 0 = true) ∧
      ((0x0103 : BitVec 16).toNat = (if true then 256 else 0) + (3 : TargetId).val) ∧ 4 ≤ (0x00FF : BitVec 16).toNat % 256 ∧
      (0xFF : Byte) ∉ knownCodes := by
  refine ⟨⟨rfl, rfl⟩, ?_⟩; decide

/-- A service READ of each consuming item: with and without an offer, an urgent entry, a record, a pending record. -/
theorem witness_ServiceReads_consuming :
    let lane (st : LaneState) : State := laneWith 3 { Lane.powerOn with state := st, records := [record 7] } onLine
    ready.svcFree framed ∧ (State.reset.restart 3).state ≠ .run ∧ offered.offer 1 = none ∧ offered.offer 0 = some 4 ∧
      (urgentReady.tgt 0).urgent = [] ∧
      ((urgentReady.restart 2).state = .run ∧ (urgentReady.tgt 2).urgent = 16 :: [17]) ∧
      (onLine.lane 0).records = [] ∧ ((lane .idle).lane 3).records = record 7 :: [] ∧
      (∀ p o, ((lane .idle).lane 3).state ≠ .waitRecord p o) ∧
      ((lane (.waitRecord (record 8) .halt)).lane 3).state = .waitRecord (record 8) .halt := by
  refine ⟨⟨rfl, rfl⟩, by decide +kernel, by decide +kernel, by decide +kernel, by decide +kernel, by decide +kernel, rfl, rfl,
    ?_, rfl⟩
  intro p o h; cases h

/-- A frame of 24, 32 and 64 bits, and each part of the reply on SVC_DOUT. -/
theorem witness_ServiceReads_bits :
    (∃ f, (sampling (List.replicate 63 true) false false ready).svc.frame = some f ∧ f.bits.length = 63) ∧
      (sampling [] false false ready).inReset = false ∧ (sampling [] false false ready).pins.svcSel = true ∧
      (ready.svc.frame = none ∨ ready.inReset = true ∨ ready.pins.svcSel = false) :=
  ⟨⟨_, rfl, rfl⟩, rfl, rfl, Or.inl rfl⟩

/-- Every case of a look: SVC_SEL was and is released or asserted, SVC_CLK rises or not, in a frame whose command is due or
not, or in none; and the wait of R19. -/
theorem witness_Looks :
    let seen (v : ServicePort) : Bool := v.sel && !v.clk
    ready.svc.sel = false ∧ ready.pins.svcSel = false ∧ framed.pins.svcSel = true ∧ framed.pins.svcClk = false ∧
      seen (sampling restartBits true false ready).svc = true ∧
      (sampling restartBits true false ready).pins.svcClk = true ∧
      ((∃ f, (sampling (List.replicate 24 false) false false ready).svc.frame = some f ∧ f.complete) ∧
        ∀ f, (sampling restartBits false false ready).svc.frame = some f → ¬ f.complete) ∧
      (∃ f, (sampling restartBits true false ready).svc.frame = some f ∧ (f.withBit false 0x40).complete) ∧
      (∃ f, (sampling [] true false ready).svc.frame = some f ∧ ¬ (f.withBit false 0x40).complete) ∧
      (let waiting : State := { ready with svc := { ready.svc with waitRelease := true, sel := true } }
       waiting.inReset = false ∧ seen waiting.svc = true ∧ waiting.svc.frame = none ∧
        (waiting.arrive now).svc.waitRelease = true) := by
  refine ⟨rfl, rfl, rfl, rfl, rfl, rfl, ⟨⟨_, rfl, complete_of rfl (by decide)⟩, ?_⟩, ⟨_, rfl, complete_of rfl (by decide)⟩,
    ⟨_, rfl, ?_⟩, rfl, rfl, rfl, rfl⟩
  · rintro f hf h; cases hf; revert h; unfold Frame.complete; decide
  · unfold Frame.complete; decide

/-- SVC_SEL asserted and SVC_CLK rising at one instant. -/
theorem witness_Looks_first :
    let s : State := { ready with pins := { ready.pins with svcSel := true, svcClk := true, svcDin := true } }
    s.inReset = false ∧ s.svc.sel = false ∧ s.pins.svcSel = true ∧ s.pins.svcClk = true ∧ s.svc.clk = false :=
  ⟨rfl, rfl, rfl, rfl, rfl⟩

/-- A step of RESET_N low, where a look changes nothing. -/
theorem witness_Look_low : ({ ready with inReset := true } : State).inReset = true := rfl

theorem witness_ClearAll :
    ready.hostFree ∧ heldRead.svcFree framed ∧ heldRead.heldRequest ≠ none ∧ ready.svcFree framed ∧
      ready.heldRequest = none :=
  ⟨⟨rfl, rfl⟩, ⟨rfl, rfl⟩, by decide, ⟨rfl, rfl⟩, rfl⟩

/-! A step of `ready` with a command in front that changes something, and the invariants on it. -/

def commanded : State := { ready with pending := [.tsqSubmit now false 0 0] }

theorem witness_step_answers_next : ∃ t, step commanded = .next t := ⟨_, rfl⟩

theorem witness_HostInv : HostInv commanded := by unfold HostInv; decide

theorem witness_StagingInv : StagingInv { commanded with staging := [⟨4095, 1⟩] } := rfl

theorem witness_TimerInv : TimerInv (commanded.setTimer 2 (timer2 true)) := by unfold TimerInv; decide +kernel

theorem witness_LineInv : LineInv (onLine.setLine .b { lineOn with state := .draining, rx := ⟨.off, 0, 0, 0⟩, tx := some ⟨1, 0⟩ }) := by
  intro l
  cases l <;> exact ⟨by decide, by decide, by decide, by decide, by decide, by decide⟩

theorem witness_LaneInv : LaneInv (laneWith 0 { Lane.powerOn with state := .running job21 63, queue := [job21] } onLine) := by
  have ok : job21.admissible := by unfold Job.admissible; decide
  intro n
  match n with
  | 0 =>
    refine ⟨by decide, by decide, ?_, ?_, ?_, ?_⟩
    · intro h; cases h
    · intro r o h; cases h
    · intro j h; simp [laneWith, State.lane, State.setLane] at h; exact h ▸ ok
    · intro j k h; cases h; exact ⟨ok, by decide⟩
  | 1 | 2 | 3 =>
    refine ⟨by decide, by decide, fun _ => rfl, ?_, ?_, ?_⟩
    · intro r o h; cases h
    · intro j h; cases h
    · intro j k h; cases h

theorem witness_EventInv : EventInv nested := by
  refine ⟨?_, ?_, ?_, ?_, ?_, ?_, ?_, ?_, ?_, ?_, ?_, ?_⟩ <;> decide +kernel

theorem witness_Settled : Settled commanded := by
  refine ⟨?_, ?_, ?_, rfl, rfl⟩ <;> decide +kernel

theorem witness_Settings :
    after (.hold framed 0x0100 0) ready (fun t => (t.tgt 0).hold) = true ∧ (Instr.hold framed 0x0100 0).isReset = false ∧
      (Instr.hold framed 0x0100 0).access = none ∧ (ready.tgt 0).hold = false := by
  decide +kernel

/-- Every clause of the statement has a command that changes its field: the owner (RELEASE_LINE, SEIZE_LINE), the
seize lock (RECLAIM_LINE), staging memory (a host write), a take count, the snapshot, the abort count. -/
theorem witness_SettingsClauses :
    after (.releaseLine now false .a 0) onLine (fun t => (t.line .a).owner != (onLine.line .a).owner) = true ∧
      after (.seizeLine framed 0 0) onLine (fun t => (t.line .a).owner != (onLine.line .a).owner) = true ∧
      after (.reclaimLine now true .a 0) onLine (fun t => (t.line .a).lock != (onLine.line .a).lock) = true ∧
      after (.registerWrite now false 0x0A00 1) ready (fun t => t.staging != ready.staging) = true ∧
      after (.tgtTake now false 0) offered (fun t => (t.tgt 0).takes != (offered.tgt 0).takes) = true ∧
      after (.snapshot framed 0) ready (fun t => t.svc.snap != ready.svc.snap) = true ∧
      after (.abortedFrame framed) ready (fun t => t.svc.abortCount != ready.svc.abortCount) = true := by
  decide +kernel

end Sys2Proof.Tests
end

section
/-! PROOFS. The host transaction port (spec/01): how a transaction ends, what a refusal records (R13, R14), which items a
read consumes nothing of (R5, R161), and what becomes of a transaction to a waiting item (R8). Settles O13, O14, O15 and
O18. -/

namespace Sys2Proof.Machine

open Sys2Proof

/-! ### What the step of a host row is -/

theorem exec_hostTransactionBegin (m : Moment) (write priv : Bool) (num : ItemNumber) (data : Word) (s : State) :
    exec (.hostTransactionBegin m write priv num data) s =
      execHostTransactionBegin m write priv num data s := rfl

theorem exec_hubFaultAck (m : Moment) (priv : Bool) (data : Word) (s : State) :
    exec (.hubFaultAck m priv data) s = execHubFaultAck m priv data s := rfl

theorem exec_lineRxWait (m : Moment) (priv : Bool) (l : LineId) (s : State) :
    exec (.lineRxWait m priv l) s = execLineRxWait m priv l s := rfl

theorem exec_lineTxWait (m : Moment) (priv : Bool) (l : LineId) (data : Word) (s : State) :
    exec (.lineTxWait m priv l data) s = execLineTxWait m priv l data s := rfl

theorem exec_heldRequestCompletion (m : Moment) (s : State) :
    exec (.heldRequestCompletion m) s = execHeldRequestCompletion m s := rfl

theorem exec_waitLimitExpiry (m : Moment) (s : State) :
    exec (.waitLimitExpiry m) s = execWaitLimitExpiry m s := rfl

/-- A step on a free port finds no held request. -/
theorem heldRequest_enter_of_free {s : State} (h : s.hostFree) (m : Moment) : (s.enter m).heldRequest = none := by
  obtain ⟨-, hheld⟩ := h
  rw [heldRequest_enter, hheld]

/-- A host transaction that the port takes is `hostAct` on what the step finds, then the end of the step. -/
theorem exec_hostTransactionBegin_of_free {s : State} (h : s.hostFree) (m : Moment) (write priv : Bool)
    (num : ItemNumber) (data : Word) :
    exec (.hostTransactionBegin m write priv num data) s =
      .next (endOfStep (hostAct write priv num (decodeItem num) data (s.enter m))) := by
  obtain ⟨hreset, -⟩ := h
  rw [exec_hostTransactionBegin, execHostTransactionBegin, takeStep_of_high hreset]

theorem exec_hostTransactionBegin_read {s : State} (h : s.hostFree) (m : Moment) (priv : Bool) {num : ItemNumber}
    {it : Item} (hd : decodeItem num = some it) (data : Word) :
    exec (.hostTransactionBegin m false priv num data) s =
      .next (endOfStep (hostRead (s.enter m) num priv it)) := by
  rw [exec_hostTransactionBegin_of_free h, hostAct_of_free (heldRequest_enter_of_free h m), hd]
  rfl

theorem exec_hostTransactionBegin_write {s : State} (h : s.hostFree) (m : Moment) (priv : Bool) {num : ItemNumber}
    {it : Item} (hd : decodeItem num = some it) (data : Word) :
    exec (.hostTransactionBegin m true priv num data) s =
      .next (endOfStep (hostWrite (s.enter m) num priv it data)) := by
  rw [exec_hostTransactionBegin_of_free h, hostAct_of_free (heldRequest_enter_of_free h m), hd]
  rfl

/-! ### What a step finds -/

@[simp] theorem HostPort.seeReq_fault (h : HostPort) (hreq : Bool) : (h.seeReq hreq).fault = h.fault := by
  rw [seeReq_eq]; unfold HostPort.reqSeen; split <;> rfl

@[simp] theorem HostPort.seeReq_waitLimit (h : HostPort) (hreq : Bool) :
    (h.seeReq hreq).waitLimit = h.waitLimit := by
  rw [seeReq_eq]; unfold HostPort.reqSeen; split <;> rfl

@[simp] theorem State.line_enter (s : State) (m : Moment) (l : LineId) : (s.enter m).line l = s.line l :=
  State.line_congr rfl rfl l

@[simp] theorem State.lane_enter (s : State) (m : Moment) (n : LaneId) : (s.enter m).lane n = s.lane n :=
  State.lane_congr rfl n

theorem Lane.holdsJob_iff (x : Lane) : x.holdsJob = true ↔ x.state ≠ .idle := by simp [Lane.holdsJob]

/-! ### How a host transaction ends -/

/-- The three ends of a host transaction on the state `s` (R1, R8): refused, done on the state that its effect left, or
held. -/
inductive HostEnd (s : State) (num : ItemNumber) (write priv : Bool) : State → Prop where
  | refused (r : Reason) : HostEnd s num write priv (s.hostRefused num r write priv)
  | done (u : State) (w : Word) : HostEnd s num write priv (u.hostDone w)
  | held (l : LineId) (data : Word) : HostEnd s num write priv (holdRequest s l write data)

theorem HostEnd.refuseHost (s : State) (num : ItemNumber) (write priv : Bool) (r : Reason) :
    HostEnd s num write priv (Machine.refuseHost s num write priv r) := refuseHost_eq s .. ▸ .refused r

theorem HostEnd.driveDone (s u : State) (num : ItemNumber) (write priv : Bool) (w : Word) :
    HostEnd s num write priv (u.driveDone w) := driveDone_eq u w ▸ .done u w

theorem waitAccess_end (s : State) (num : ItemNumber) (l : LineId) (write priv : Bool) (data : Word) :
    HostEnd s num write priv (waitAccess s num l write priv data) := by
  unfold waitAccess
  split
  · exact .driveDone ..
  · split
    · exact .refuseHost ..
    · split
      · exact .refuseHost ..
      · split
        · exact .refuseHost ..
        · exact .held l data

theorem hostRead_end (s : State) (num : ItemNumber) (priv : Bool) (it : Item) :
    HostEnd s num false priv (hostRead s num priv it) := by
  unfold hostRead
  split
  · exact .refuseHost ..
  · split
    · exact waitAccess_end ..
    · split
      · exact .refuseHost ..
      · exact .driveDone ..

theorem hostWrite_end (s : State) (num : ItemNumber) (priv : Bool) (it : Item) (data : Word) :
    HostEnd s num true priv (hostWrite s num priv it data) := by
  unfold hostWrite
  split
  · exact .refuseHost ..
  · split
    · exact waitAccess_end ..
    · split
      · exact .refuseHost ..
      · exact .driveDone ..

theorem hostAct_end {s : State} (h : s.heldRequest = none) (write priv : Bool) (num : ItemNumber) (it : Option Item)
    (data : Word) : HostEnd s num write priv (hostAct write priv num it data s) := by
  rw [hostAct_of_free h]
  cases it with
  | none => exact .refused .noItem
  | some i =>
    cases write with
    | false => exact hostRead_end ..
    | true => exact hostWrite_end ..

/-- Only a refusal asserts HREFUSE. -/
theorem HostEnd.eq_hostRefused {s t : State} {num : ItemNumber} {write priv : Bool} (h : HostEnd s num write priv t)
    (ht : t.host.hrefuse = true) : ∃ r, t = s.hostRefused num r write priv := by
  cases h with
  | refused r => exact ⟨r, rfl⟩
  | done u w => cases ht
  | held l data => cases ht

/-! ### What a programming refusal records (R13, R14) -/

theorem FaultRecord.after_of_empty {f : FaultRecord} (h : f.count = 0) (num : ItemNumber) (r : Reason)
    (write priv : Bool) : f.after num r write priv = ⟨num, r.code, write, priv, false, 1⟩ := if_pos h

theorem FaultRecord.after_of_occupied {f : FaultRecord} (h : f.count ≠ 0) (num : ItemNumber) (r : Reason)
    (write priv : Bool) :
    f.after num r write priv =
      { f with overflow := true, count := if f.count = 255 then 255 else f.count + 1 } := if_neg h

/-- R3: the codes 1 to 6 are those of the programming refusals. -/
theorem Reason.isProgramming_of_code {r : Reason} (h1 : 1 ≤ r.code.toNat) (h6 : r.code.toNat ≤ 6) :
    r.isProgramming = true := by
  cases r <;> revert h1 h6 <;> decide

/-- A transaction refused with a programming reason leaves the fault record as R13 and R14 have it for that reason. -/
theorem fault_of_programmingRefusal {m : Moment} {s t : State} {write priv : Bool} {num : ItemNumber} {data : Word}
    (hf : s.hostFree) (he : exec (.hostTransactionBegin m write priv num data) s = .next t)
    (hr : t.host.hrefuse = true) (h1 : 1 ≤ t.host.hdata.toNat) (h6 : t.host.hdata.toNat ≤ 6) :
    ∃ r : Reason, r.code = BitVec.ofNat 4 t.host.hdata.toNat ∧
      t.host.fault = s.host.fault.after num r write priv := by
  rw [exec_hostTransactionBegin_of_free hf, Host.Outcome.next.injEq] at he
  subst he
  rw [endOfStep_host] at hr h1 h6 ⊢
  obtain ⟨r, ht⟩ := (hostAct_end (heldRequest_enter_of_free hf m) write priv num (decodeItem num) data).eq_hostRefused hr
  rw [ht] at h1 h6 ⊢
  have hdata : (((s.enter m).hostRefused num r write priv).host.hdata).toNat = r.code.toNat := by
    have := r.code.isLt
    simp only [State.hostRefused, HostPort.refused, BitVec.toNat_setWidth]
    omega
  rw [hdata] at h1 h6 ⊢
  have hp := Reason.isProgramming_of_code h1 h6
  exact ⟨r, by simp, by simp [State.hostRefused, HostPort.refused, hp]⟩

/-! ### A held request never enters the fault record (R13) -/

@[simp] theorem twinEffect_host (s : State) (l : LineId) (write : Bool) (data : Word) :
    (twinEffect s l write data).host = s.host := by
  cases l <;> cases write <;> rfl

@[simp] theorem State.hostDone_fault (s : State) (w : Word) : (s.hostDone w).host.fault = s.host.fault := rfl

@[simp] theorem State.heldRefused_fault (s : State) (r : Reason) : (s.heldRefused r).host.fault = s.host.fault := rfl

theorem reexamine_fault (s : State) (h : Held) (expired : Bool) : (reexamine s h expired).host.fault = s.host.fault := by
  unfold reexamine
  split
  · rw [refuseHeld_eq, State.heldRefused_fault]
  · split
    · rw [driveDone_eq, State.hostDone_fault, twinEffect_host]
    · split
      · rw [refuseHeld_eq, State.heldRefused_fault]
      · rfl

theorem completeHeld_fault (s : State) : (completeHeld s).host.fault = s.host.fault := by
  unfold completeHeld
  split
  · rfl
  · exact reexamine_fault ..

theorem expireHeld_fault (s : State) : (expireHeld s).host.fault = s.host.fault := by
  unfold expireHeld
  split
  · rfl
  · rw [reexamine_fault, State.advanceTo_host]

/-- A step whose action keeps the fault record keeps it. -/
theorem takeStep_fault {action : State → State} (h : ∀ u, (action u).host.fault = u.host.fault) (m : Moment)
    (s : State) : (takeStep m action s).host.fault = s.host.fault := by
  unfold takeStep
  split
  · rfl
  · simp [h]

theorem takeEarlyStep_fault {action : State → State} (h : ∀ u, (action u).host.fault = u.host.fault) (m : Moment)
    (s : State) : (takeEarlyStep m action s).host.fault = s.host.fault := by
  unfold takeEarlyStep
  split
  · rfl
  · simp [h]

/-- Settles O14: a transaction that asserts HREFUSE was refused, and its code on HDATA tells that its reason is a
programming one; the two steps of a held request keep the record. -/
theorem firstProgrammingRefusalFillsTheFaultRecord : Obligations.FirstProgrammingRefusalFillsTheFaultRecord := by
  refine ⟨fun m s t write priv num data hf he hr h1 h6 hempty => ?_, fun m s t he => ?_⟩
  · obtain ⟨r, hcode, hfault⟩ := fault_of_programmingRefusal hf he hr h1 h6
    rw [hfault, FaultRecord.after_of_empty hempty, hcode]
  · rcases he with he | he
    · rw [exec_heldRequestCompletion, execHeldRequestCompletion] at he
      cases he
      exact takeEarlyStep_fault completeHeld_fault m s
    · rw [exec_waitLimitExpiry, execWaitLimitExpiry] at he
      cases he
      exact takeStep_fault expireHeld_fault m s

/-- An unprivileged write of HUB_FAULT_ACK is refused PROTECTION (R7, R15). -/
theorem hubFaultAck_unprivileged {s : State} (hf : s.hostFree) (m : Moment) (data : Word) :
    exec (.hubFaultAck m false data) s =
      .next (endOfStep ((s.enter m).hostRefused (Item.hub .faultAck).number .protection true false)) := by
  rw [exec_hubFaultAck, execHubFaultAck, hostWriteStep_of_free hf, hostWrite_refused rfl]

/-- Settles O15: the record that a programming refusal leaves, for an occupied one; and a refusal of HUB_FAULT_ACK. -/
theorem furtherProgrammingRefusalsOnlyCount : Obligations.FurtherProgrammingRefusalsOnlyCount := by
  refine ⟨fun m s t write priv num data hf he hr h1 h6 hoccupied => ?_, fun m s data hf hreq => ?_⟩
  · obtain ⟨r, -, hfault⟩ := fault_of_programmingRefusal hf he hr h1 h6
    rw [hfault, FaultRecord.after_of_occupied hoccupied]
  · refine ⟨_, hubFaultAck_unprivileged hf m data, ?_, ?_⟩
    · simpa [State.hostRefused, HostPort.refused] using hreq
    · simp [State.hostRefused, HostPort.refused, Reason.code]

/-! ### Reads that consume nothing (R5, R161, R163) -/

/-- The items whose reads consume something (R163), LINE_RX_WAIT among them. -/
def consumes : Item → Bool
  | .tgt _ .take | .tgt _ .takeUrgent | .tgt _ .doorbell => true
  | .line _ .rx | .line _ .rxWait => true
  | .lane _ .record => true
  | _ => false

theorem consume_of_not_consumes {it : Item} (h : consumes it = false) (s : State) : consume s it = s := by
  unfold consume
  split
  case h_6 => rfl
  all_goals cases h

theorem readRefusal_of_not_consumes {it : Item} (h : consumes it = false) (s : State) : s.readRefusal it = none := by
  unfold State.readRefusal
  split
  case h_4 => rfl
  all_goals cases h

/-- Every consuming item is a read-only one for the host. -/
theorem hostAccess_of_consumes {it : Item} (h : consumes it = true) : hostAccess it = .read := by
  unfold consumes at h
  split at h
  case h_7 => cases h
  all_goals rfl

theorem not_consumes_of_write {it : Item} (h : hostAccess it = .write) : consumes it = false := by
  by_contra hc
  rw [hostAccess_of_consumes (by simpa using hc)] at h
  cases h

theorem not_consumes_of_ne {it : Item}
    (htgt : ∀ t, it ≠ .tgt t .take ∧ it ≠ .tgt t .takeUrgent ∧ it ≠ .tgt t .doorbell)
    (hline : ∀ l, it ≠ .line l .rx ∧ it ≠ .line l .rxWait) (hlane : ∀ n, it ≠ .lane n .record) :
    consumes it = false := by
  simp only [ne_eq, forall_and] at htgt hline
  obtain ⟨htake, hurgent, hbell⟩ := htgt
  obtain ⟨hrx, hwait⟩ := hline
  unfold consumes
  split
  · exact absurd rfl (htake _)
  · exact absurd rfl (hurgent _)
  · exact absurd rfl (hbell _)
  · exact absurd rfl (hrx _)
  · exact absurd rfl (hwait _)
  · exact absurd rfl (hlane _)
  · rfl

/-- A read of an item that consumes nothing returns its value and changes nothing (R5). -/
theorem hostRead_of_not_consumes {it : Item} (h : consumes it = false) (ha : hostAccess it ≠ .none) (s : State)
    (num : ItemNumber) (priv : Bool) : hostRead s num priv it = s.hostDone (s.itemWord it) := by
  rw [hostRead_done ha (fun l e => by subst e; cases h) (readRefusal_of_not_consumes h s),
    consume_of_not_consumes h]

/-- A command item reads as zero (R5). -/
theorem itemWord_of_write {it : Item} (h : hostAccess it = .write) (s : State) : s.itemWord it = 0 := by
  unfold hostAccess at h
  split at h <;> cases h <;> rfl

/-! ### HPRIV of a read (R5) -/

theorem refuseHost_priv {s : State} {r : Reason} (h : s.host.fault.count ≠ 0 ∨ r.isProgramming = false)
    (num : ItemNumber) (write p q : Bool) : refuseHost s num write p r = refuseHost s num write q r := by
  rw [refuseHost_eq, refuseHost_eq]
  unfold State.hostRefused HostPort.refused
  rcases h with h | h
  · simp only [FaultRecord.after_of_occupied h]
  · simp [h]

theorem rxRefusal_flow {s : State} {l : LineId} {r : Reason} (h : s.rxRefusal l = some r) : r.isProgramming = false := by
  unfold State.rxRefusal at h
  split_ifs at h <;> cases h <;> rfl

theorem txRefusal_flow {s : State} {l : LineId} {r : Reason} (h : s.txRefusal l = some r) : r.isProgramming = false := by
  unfold State.txRefusal at h
  split_ifs at h <;> cases h <;> rfl

theorem twinRefusal_flow {s : State} {l : LineId} {write : Bool} {r : Reason} (h : s.twinRefusal l write = some r) :
    r.isProgramming = false := by
  cases write with
  | false => exact rxRefusal_flow h
  | true => exact txRefusal_flow h

theorem endingReason_flow {s : State} {l : LineId} {write : Bool} {r : Reason} (h : s.endingReason l write = some r) :
    r.isProgramming = false := by
  unfold State.endingReason at h
  dsimp only at h
  split_ifs at h <;> cases h <;> rfl

theorem readRefusal_flow {s : State} {it : Item} {r : Reason} (h : s.readRefusal it = some r) :
    r.isProgramming = false := by
  unfold State.readRefusal at h
  split at h
  · split_ifs at h; cases h; rfl
  · split_ifs at h; cases h; rfl
  · exact rxRefusal_flow h
  · cases h

/-- A waiting item is refused with flow reasons only, which record no privilege. -/
theorem waitAccess_priv (s : State) (num : ItemNumber) (l : LineId) (write : Bool) (data : Word) (p q : Bool) :
    waitAccess s num l write p data = waitAccess s num l write q data := by
  unfold waitAccess
  split
  · rfl
  · next r hr =>
    rw [refuseHost_priv (.inr (twinRefusal_flow hr)) num write p q]
    split
    · rfl
    · split
      · next e he => exact refuseHost_priv (.inr (endingReason_flow he)) num write p q
      · rfl

/-- HPRIV has no effect on a read, but for the level that a first NO_ITEM records (R5, R13). -/
theorem hostRead_priv {s : State} {it : Item} (h : s.host.fault.count ≠ 0 ∨ hostAccess it ≠ .none) (num : ItemNumber)
    (p q : Bool) : hostRead s num p it = hostRead s num q it := by
  unfold hostRead
  split
  · next ha => exact refuseHost_priv (.inl (h.resolve_right (not_not_intro ha))) num false p q
  · split
    · exact waitAccess_priv ..
    · split
      · next r hr => exact refuseHost_priv (.inr (readRefusal_flow hr)) num false p q
      · rfl

/-! ### Visibility and direction (R5) -/

theorem hostRead_noItem {it : Item} (h : hostAccess it = .none) (s : State) (num : ItemNumber) (priv : Bool) :
    hostRead s num priv it = s.hostRefused num .noItem false priv := by
  unfold hostRead
  rw [if_pos h, refuseHost_eq]

theorem hostWriteCheck_noItem {it : Item} (h : hostAccess it = .none) (s : State) (priv : Bool) (data : Word) :
    s.hostWriteCheck priv it data = some .noItem := by
  rw [State.hostWriteCheck, if_pos h]

theorem hostWriteCheck_readOnly {it : Item} (h : hostAccess it = .read) (s : State) (priv : Bool) (data : Word) :
    s.hostWriteCheck priv it data = some .readOnly := by
  simp [State.hostWriteCheck, h]

/-- A number that names no item, or one that the host does not see, is refused NO_ITEM in both directions. -/
theorem hostAct_noItem {s : State} (hheld : s.heldRequest = none) {item : Option Item}
    (h : ∀ it, item = some it → hostAccess it = .none) (write priv : Bool) (num : ItemNumber) (data : Word) :
    hostAct write priv num item data s = s.hostRefused num .noItem write priv := by
  rw [hostAct_of_free hheld]
  cases item with
  | none => rfl
  | some it =>
    have ha := h it rfl
    cases write with
    | false => exact hostRead_noItem ha ..
    | true => exact hostWrite_refused (hostWriteCheck_noItem ha ..)

/-- Settles O13: one clause for each column entry of host access, and HPRIV on reads. -/
theorem hostVisibilityAndDirection : Obligations.HostVisibilityAndDirection := by
  intro m s num priv data hf
  refine ⟨fun write hnone => ?_, fun it hd ha => ?_, fun it hd ha => ?_, fun it hd ha htgt hline hlane => ?_,
    fun it hd h => ?_⟩
  · rw [exec_hostTransactionBegin_of_free hf, hostAct_noItem (heldRequest_enter_of_free hf m) hnone]
  · rw [exec_hostTransactionBegin_write hf m priv hd, hostWrite_refused (hostWriteCheck_readOnly ha ..)]
  · have hc := not_consumes_of_write ha
    rw [exec_hostTransactionBegin_read hf m priv hd, hostRead_of_not_consumes hc (by simp [ha]), itemWord_of_write ha]
  · have hc := not_consumes_of_ne htgt hline hlane
    rw [exec_hostTransactionBegin_read hf m priv hd, hostRead_of_not_consumes hc (by rcases ha with ha | ha <;> simp [ha])]
  · rw [exec_hostTransactionBegin_read hf m priv hd, exec_hostTransactionBegin_read hf m (!priv) hd,
      hostRead_priv (by simpa using h)]

/-! ### The refusal of a waiting item's twin (R87, R88) -/

theorem rxRefusal_of_busy {s : State} {l : LineId} (h : (s.lane (rxLane l)).state ≠ .idle) :
    s.rxRefusal l = some .laneBusy := by
  rw [State.rxRefusal, if_pos ((Lane.holdsJob_iff _).2 h)]

theorem rxRefusal_of_idle {s : State} {l : LineId} (h : (s.lane (rxLane l)).state = .idle) :
    s.rxRefusal l = if (s.line l).prog.rx = [] then some .empty else none := by
  simp [State.rxRefusal, Lane.holdsJob, h]

theorem txRefusal_of_busy {s : State} {l : LineId} (h : (s.lane (txLane l)).state ≠ .idle) :
    s.txRefusal l = some .laneBusy := by
  rw [State.txRefusal, if_pos ((Lane.holdsJob_iff _).2 h)]

theorem txRefusal_of_idle {s : State} {l : LineId} (h : (s.lane (txLane l)).state = .idle) :
    s.txRefusal l = if 32 ≤ (s.line l).prog.tx.length then some .full else none := by
  rw [State.txRefusal, if_neg (by simp [Lane.holdsJob, h])]
  rfl

/-! ### A transaction to a waiting item (R8) -/

section WaitAccess
variable {s : State} {l : LineId} {write : Bool}

/-- When the twin finds its queue empty or full, a lost line ends the wait with that reason (R9). -/
theorem endingReason_of_lost (h : s.twinRefusal l write = some (waitReason write))
    (hl : (s.line l).owner ≠ .program ∨ (s.line l).state ≠ .running) :
    s.endingReason l write = some (waitReason write) := by
  cases write with
  | false =>
    simp only [State.twinRefusal, State.rxRefusal, Bool.false_eq_true, if_false] at h
    split_ifs at h with hlane hempty
    · cases h
    · simp [State.endingReason, hlane, List.isEmpty_iff.1 hempty, hl, waitReason]
  | true =>
    simp only [State.twinRefusal, State.txRefusal, if_true] at h
    split_ifs at h with hlane hfull
    · cases h
    · simp [State.endingReason, hlane, hl, waitReason]

/-- While the program channel has the running line, no ending condition of R9 applies. -/
theorem endingReason_of_kept (h : s.twinRefusal l write = some (waitReason write))
    (ho : (s.line l).owner = .program) (hrun : (s.line l).state = .running) : s.endingReason l write = none := by
  cases write with
  | false =>
    simp only [State.twinRefusal, State.rxRefusal, Bool.false_eq_true, if_false] at h
    split_ifs at h with hlane hempty
    · cases h
    · simp [State.endingReason, hlane, ho, hrun]
  | true =>
    simp only [State.twinRefusal, State.txRefusal, if_true] at h
    split_ifs at h with hlane hfull
    · cases h
    · simp [State.endingReason, hlane, ho, hrun]

theorem waitReason_waits (write : Bool) : ¬ (waitReason write ≠ .empty ∧ waitReason write ≠ .full) := by
  cases write <;> simp [waitReason]

theorem waitAccess_of_busy (h : s.twinRefusal l write = some .laneBusy) (num : ItemNumber) (priv : Bool)
    (data : Word) : waitAccess s num l write priv data = s.hostRefused num .laneBusy write priv := by
  rw [waitAccess, h, ← refuseHost_eq]
  rfl

theorem waitAccess_of_ready (h : s.twinRefusal l write = none) (num : ItemNumber) (priv : Bool) (data : Word) :
    waitAccess s num l write priv data = (twinEffect s l write data).hostDone (s.twinWord l write) := by
  rw [waitAccess, h, ← driveDone_eq]

/-- The twin's reason, at once: the line is lost or the wait limit is 0. -/
theorem waitAccess_of_lost (h : s.twinRefusal l write = some (waitReason write))
    (hl : (s.line l).owner ≠ .program ∨ (s.line l).state ≠ .running ∨ s.host.waitLimit = 0) (num : ItemNumber)
    (priv : Bool) (data : Word) :
    waitAccess s num l write priv data = s.hostRefused num (waitReason write) write priv := by
  rw [waitAccess, h, ← refuseHost_eq]
  dsimp only
  rw [if_neg (waitReason_waits write)]
  by_cases hlost : (s.line l).owner ≠ .program ∨ (s.line l).state ≠ .running
  · rw [endingReason_of_lost h hlost]
  · have hlimit : s.host.waitLimit = 0 := (or_assoc.2 hl).resolve_left hlost
    rw [not_or, not_not, not_not] at hlost
    obtain ⟨ho, hrun⟩ := hlost
    rw [endingReason_of_kept h ho hrun]
    dsimp only
    rw [if_pos hlimit]

theorem waitAccess_of_kept (h : s.twinRefusal l write = some (waitReason write))
    (ho : (s.line l).owner = .program) (hrun : (s.line l).state = .running) (hlimit : s.host.waitLimit ≠ 0)
    (num : ItemNumber) (priv : Bool) (data : Word) :
    waitAccess s num l write priv data = holdRequest s l write data := by
  rw [waitAccess, h]
  dsimp only
  rw [if_neg (waitReason_waits write), endingReason_of_kept h ho hrun]
  dsimp only
  rw [if_neg hlimit]

end WaitAccess

/-! ### LINE_RX_WAIT and LINE_TX_WAIT -/

theorem exec_lineRxWait_of_free {s : State} (hf : s.hostFree) (m : Moment) (priv : Bool) (l : LineId) :
    exec (.lineRxWait m priv l) s =
      .next (endOfStep (waitAccess (s.enter m) (BitVec.ofNat 16 (256 * l.unit + 7)) l false priv 0)) := by
  rw [exec_lineRxWait, execLineRxWait, hostReadStep_of_free hf]
  rfl

theorem exec_lineTxWait_of_free {s : State} (hf : s.hostFree) (m : Moment) (priv : Bool) (l : LineId) (data : Word) :
    exec (.lineTxWait m priv l data) s =
      .next (endOfStep (waitAccess (s.enter m) (BitVec.ofNat 16 (256 * l.unit + 9)) l true priv data)) := by
  rw [exec_lineTxWait, execLineTxWait, hostWriteStep_of_free hf]
  rfl

/-- Settles O18: the transaction is `waitAccess` on what the step finds, and the state of the lane, the queue, the line
and the limit there are those before the step. -/
theorem waitingItemsCompleteOrAreHeld : Obligations.WaitingItemsCompleteOrAreHeld := by
  intro m s l priv data hf
  have hlimit : (s.enter m).host.waitLimit = s.host.waitLimit := by simp
  have hrx : (s.enter m).twinRefusal l false = s.rxRefusal l := by simp [State.twinRefusal, State.rxRefusal]
  have htx : (s.enter m).twinRefusal l true = s.txRefusal l := by simp [State.twinRefusal, State.txRefusal]
  dsimp only
  rw [exec_lineRxWait_of_free hf, exec_lineTxWait_of_free hf]
  refine ⟨fun hbusy => ?_, fun hidle => ⟨fun e rest hq => ?_, fun hq => ?_⟩,
    fun hbusy => ?_, fun hidle => ⟨fun hq => ?_, fun hq => ?_⟩⟩
  · rw [waitAccess_of_busy (hrx.trans (rxRefusal_of_busy hbusy))]
  · rw [rxRefusal_of_idle hidle, hq, if_neg (List.cons_ne_nil _ _)] at hrx
    rw [waitAccess_of_ready hrx]
    simp [twinEffect, popEntry, Line.setChan, Line.chan, State.twinWord, rxHeadWord, hq]
  · rw [rxRefusal_of_idle hidle, if_pos hq] at hrx
    refine ⟨fun hl => ?_, fun ho hrun hwait => ?_⟩
    · rw [waitAccess_of_lost hrx (by simpa using hl)]
      rfl
    · rw [waitAccess_of_kept hrx (by simpa using ho) (by simpa using hrun) (by simpa using hwait), ← hlimit]
      rfl
  · rw [waitAccess_of_busy (htx.trans (txRefusal_of_busy hbusy))]
  · rw [txRefusal_of_idle hidle, if_neg (Nat.not_le.2 hq)] at htx
    rw [waitAccess_of_ready htx]
    simp [twinEffect, pushChar, Line.setChan, Line.chan, State.twinWord]
  · rw [txRefusal_of_idle hidle, if_pos hq] at htx
    refine ⟨fun hl => ?_, fun ho hrun hwait => ?_⟩
    · rw [waitAccess_of_lost htx (by simpa using hl)]
      rfl
    · rw [waitAccess_of_kept htx (by simpa using ho) (by simpa using hrun) (by simpa using hwait), ← hlimit]
      rfl

end Sys2Proof.Machine
end

section
/-! PROOFS. The service port (spec/02): what RING does to a doorbell and what a host read of DOORBELL_WORD returns and
clears (R33, R34). Settles O33. -/

namespace Sys2Proof.Machine

open Sys2Proof

/-! ### The target that an argument names (R21) -/

theorem targetOfArg_of_toNat_eq {arg : BitVec 16} {k : TargetId} (h : arg.toNat = k.val) :
    targetOfArg arg = some k := by
  have hlt : arg.toNat < 4 := h ▸ k.isLt
  rw [targetOfArg, dif_pos hlt, Option.some.injEq]
  exact Fin.ext h

theorem targetOfArg_of_le {arg : BitVec 16} (h : 4 ≤ arg.toNat) : targetOfArg arg = none :=
  dif_neg (Nat.not_lt.2 h)

/-! ### RING (R33) -/

theorem ringCommand_of_clear {s : State} {arg : BitVec 16} {k : TargetId} (hk : targetOfArg arg = some k)
    (hb : (s.bell k).unread = false) (data : Word) :
    ringCommand arg data s = ⟨s.setBell k ⟨data, true⟩, .ok, 0⟩ := by
  simp [ringCommand, hk, hb]

theorem ringCommand_of_unread {s : State} {arg : BitVec 16} {k : TargetId} (hk : targetOfArg arg = some k)
    (hb : (s.bell k).unread = true) (data : Word) : ringCommand arg data s = ⟨s, .pendingUnread, 0⟩ := by
  simp [ringCommand, refuseCommand, hk, hb]

theorem ringCommand_of_noTarget {arg : BitVec 16} (h : targetOfArg arg = none) (data : Word) (s : State) :
    ringCommand arg data s = ⟨s, .badValue, 0⟩ := by
  simp [ringCommand, refuseCommand, h]

theorem exec_ring (m : Moment) (arg : BitVec 16) (data : Word) (s : State) :
    exec (.ring m arg data) s = execRing m arg data s := rfl

/-- A RING frame that the port executes posts what `ringCommand` answers on the state it finds. -/
theorem exec_ring_frame {s : State} {m : Moment} (h : s.svcFree m) {arg : BitVec 16} {data : Word} {u : State}
    {r : Reason} (he : ringCommand arg data (s.arrive m) = ⟨u, r, 0⟩) :
    ∃ t, exec (.ring m arg data) s = .next t ∧ WriteFrame (s.arrive m) t u r 0x30 arg data := by
  refine ⟨_, exec_ring m arg data s, ?_⟩
  have hframe := writeCommand_frame h 0x30 arg data (ringCommand arg data)
  rwa [he] at hframe

/-! ### The host read of DOORBELL_WORD (R34) -/

theorem exec_doorbellWord (m : Moment) (priv : Bool) (k : TargetId) (s : State) :
    exec (.doorbellWord m priv k) s = execDoorbellWord m priv k s := rfl

/-- The host read is done in every restart state: it returns the word and clears the flag. -/
theorem hostRead_doorbell (s : State) (num : ItemNumber) (priv : Bool) (k : TargetId) :
    hostRead s num priv (.tgt k .doorbell) =
      (s.setBell k { s.bell k with unread := false }).hostDone (s.bell k).word :=
  hostRead_done (by simp [hostAccess]) (fun _ => by simp) rfl

/-- Settles O33: the doorbells that either port finds are those before the step, and neither command looks at the
restart state of the target. -/
theorem doorbellsAreRungAndRead : Obligations.DoorbellsAreRungAndRead := by
  intro m s k priv arg data
  refine ⟨fun hf => ?_, fun hf => ⟨fun hk hb => ?_, fun hk hb => ?_, fun hbad => ?_⟩⟩
  · rw [exec_doorbellWord, execDoorbellWord, hostReadStep_of_free hf, hostRead_doorbell, State.enter_bell]
  · exact exec_ring_frame hf (ringCommand_of_clear (targetOfArg_of_toNat_eq hk) (by simpa using hb) data)
  · exact exec_ring_frame hf (ringCommand_of_unread (targetOfArg_of_toNat_eq hk) (by simpa using hb) data)
  · exact exec_ring_frame hf (ringCommand_of_noTarget (targetOfArg_of_le hbad) data _)

end Sys2Proof.Machine
end

section
/-! PROOFS. The event sources (spec/03): the value rules and the acceptance rule of a written source entry, and what a host
write to SRC_ENTRY does (R41 to R43, R49). Settles O22. -/

namespace Sys2Proof.Machine

open Sys2Proof

/-! ### The source that a step finds -/

@[simp] theorem State.enter_src (s : State) (m : Moment) (i : SourceId) : (s.enter m).src i = s.src i :=
  State.src_congr (State.enter_sources s m) i

/-! ### The value rules of an entry (R37, R41) -/

theorem fixedTrigger_of_lt {i : SourceId} (h : i.val < 16) : fixedTrigger i = none := if_pos h

theorem fixedTrigger_of_le {i : SourceId} (h : 16 ≤ i.val) :
    fixedTrigger i = some (if fixedEdge i then .edge else .level) := by
  have hcond : (i.val < 20 ∨ i.val = 26 ∨ i.val = 27 ∨ i.val = 30 ∨ i.val = 31) ↔ fixedEdge i = true := by
    unfold fixedEdge
    rw [decide_eq_true_iff]
    omega
  rw [fixedTrigger, if_neg (Nat.not_lt.2 h)]
  simp only [hcond]
  split <;> rfl

theorem entryBadValue_iff (i : SourceId) (e : Entry) :
    entryBadValue i e = true ↔
      (16 ≤ i.val ∧ e.trigger ≠ (if fixedEdge i then .edge else .level)) ∨
        (e.cls = .urgent ∧ e.spreadMode = true) ∨ (e.spreadMode = true ∧ e.spread = 0) := by
  unfold entryBadValue
  rcases Nat.lt_or_ge i.val 16 with hxr | hfixed
  · rw [fixedTrigger_of_lt hxr]
    simp [Nat.not_le.2 hxr]
  · rw [fixedTrigger_of_le hfixed]
    simp [hfixed, or_assoc]

/-! ### The two accepted cases (R42) and the accepted write (R43, R49) -/

theorem Source.acceptsEntry_iff (x : Source) (e : Entry) :
    x.acceptsEntry e = true ↔
      (x.entry.enable = false ∧ x.state = .idle) ∨ { e with enable := x.entry.enable } = x.entry := by
  simp [Source.acceptsEntry]

theorem SourceState.disabled_eq_cleared (st : SourceState) : st.disabled = st.cleared := by
  cases st <;> rfl

theorem Source.writeEntry_eq (x : Source) (e : Entry) :
    x.writeEntry e =
      { x with
        entry := e
        state := if x.entry.enable = true ∧ e.enable = false then x.state.cleared else x.state } := by
  simp [Source.writeEntry, SourceState.disabled_eq_cleared]

/-! ### A host write to SRC_ENTRY -/

theorem hostWriteCheck_srcEntry_of_bad {i : SourceId} {data : Word} (h : entryBadValue i (entryOfWord data) = true)
    (s : State) (priv : Bool) : s.hostWriteCheck priv (.srcEntry i) data = some .badValue := by
  simp [State.hostWriteCheck, hostAccess, State.needsPriv, State.badValue, h]

/-- SRC_ENTRY is open to an unprivileged host, so only the value rules stand among checks 1 to 4 (R160). -/
theorem hostWriteCheck_srcEntry_of_good {i : SourceId} {data : Word} (h : ¬ entryBadValue i (entryOfWord data) = true)
    (s : State) (priv : Bool) : s.hostWriteCheck priv (.srcEntry i) data = none :=
  hostWriteCheck_none (.inl rfl) (by simp [State.needsPriv]) (Bool.eq_false_of_not_eq_true h)

theorem exec_srcEntry_of_free {s : State} (hf : s.hostFree) (m : Moment) (priv : Bool) (i : SourceId) (data : Word) :
    exec (.srcEntry m priv i data) s =
      .next (endOfStep (hostWrite (s.enter m) (.ofNat 16 (0x0100 + 2 * i.val)) priv (.srcEntry i) data)) := by
  have hexec : exec (.srcEntry m priv i data) s = execSrcEntry m priv i data s := rfl
  rw [hexec, execSrcEntry, hostWriteStep_of_free hf]
  rfl

/-- Settles O22: the value rules are a check before the state check, which judges the source as it stood before the
step. -/
theorem srcEntryWritesAreJudgedThenWhole : Obligations.SrcEntryWritesAreJudgedThenWhole := by
  intro m s i priv data hf
  dsimp only
  rw [exec_srcEntry_of_free hf, ← entryBadValue_iff, ← Source.acceptsEntry_iff, ← Source.writeEntry_eq]
  refine ⟨fun hbad => ?_, fun hgood hrefused => ?_, fun hgood haccepted => ?_⟩
  · rw [hostWrite_refused (hostWriteCheck_srcEntry_of_bad hbad _ priv)]
  · have hstate : (s.enter m).writeRefusal (.srcEntry i) data = some .notIdle := by
      simp [State.writeRefusal, hrefused]
    rw [hostWrite_refused_state (hostWriteCheck_srcEntry_of_good hgood _ priv) (fun _ => nofun) hstate]
  · have hstate : (s.enter m).writeRefusal (.srcEntry i) data = none := by
      simp [State.writeRefusal, haccepted]
    rw [hostWrite_accepted (hostWriteCheck_srcEntry_of_good hgood _ priv) (fun _ => nofun) hstate, writeItem,
      State.enter_src]

end Sys2Proof.Machine
end

section
/-! PROOFS. The offer computation of a target (spec/04): which sources are presentable, the fold that picks the candidate,
the CPL and the four conditions of an offer (R50, R59 to R61). Settles O26 and O27. -/

namespace Sys2Proof.Machine

open Sys2Proof

/-! ### Presentable sources (R50) -/

theorem Source.presentable_iff (x : Source) (t : TargetId) :
    x.presentable t = true ↔
      x.entry.enable = true ∧ x.entry.cls = .normal ∧ x.state = .pending ∧ x.entry.level ≠ 0 ∧
        (if x.entry.spreadMode then x.entry.spread.getLsbD t.val = true else x.entry.fixed = t) := by
  have hrouted : x.entry.eligible t = true ↔
      if x.entry.spreadMode then x.entry.spread.getLsbD t.val = true else x.entry.fixed = t := by
    unfold Entry.eligible inSet
    split <;> simp
  simp [Source.presentable, hrouted, and_assoc]

/-! ### The order in which sources are preferred (R60) -/

/-- Source `i` is preferred to source `j`, or is `j`: its level is higher, or it has that level and no higher number. -/
def State.outranks (s : State) (i j : SourceId) : Prop :=
  (s.src j).entry.level < (s.src i).entry.level ∨ ((s.src j).entry.level = (s.src i).entry.level ∧ i ≤ j)

theorem State.outranks_refl (s : State) (i : SourceId) : s.outranks i i := .inr ⟨rfl, le_rfl⟩

/-- A higher level carries over to whatever the lower one is preferred to. -/
theorem State.outranks_of_higher {s : State} {i j k : SourceId} (h : (s.src j).entry.level < (s.src i).entry.level)
    (hjk : s.outranks j k) : s.outranks i k := by
  obtain hlower | ⟨hsame, -⟩ := hjk
  · exact .inl (BitVec.lt_trans hlower h)
  · exact .inl (hsame ▸ h)

theorem State.outranks_antisymm {s : State} {i j : SourceId} (hij : s.outranks i j) (hji : s.outranks j i) :
    i = j := by
  obtain hlt | ⟨hsame, hle⟩ := hij <;> obtain hlt' | ⟨hsame', hle'⟩ := hji
  · exact absurd hlt' (BitVec.lt_asymm hlt)
  · exact absurd (hsame' ▸ hlt) (BitVec.lt_irrefl _)
  · exact absurd (hsame ▸ hlt') (BitVec.lt_irrefl _)
  · exact le_antisymm hle hle'

/-! ### The candidate (R60) -/

/-- What the fold has found on a list of sources: its presentable source that outranks the others, or that it has
none. -/
def BestOf (s : State) (t : TargetId) (l : List SourceId) : Option SourceId → Prop
  | none => ∀ j ∈ l, ¬ (s.src j).presentable t
  | some i => i ∈ l ∧ (s.src i).presentable t ∧ ∀ j ∈ l, (s.src j).presentable t → s.outranks i j

/-- One more source, of a higher number than all before it, is taken in by `better`: it displaces the best so far only
by a higher level. -/
theorem BestOf.concat {s : State} {t : TargetId} {l : List SourceId} {best : Option SourceId} (h : BestOf s t l best)
    {x : SourceId} (hlast : ∀ j ∈ l, j < x) : BestOf s t (l ++ [x]) (better s t best x) := by
  have hcover {P : SourceId → Prop} (hl : ∀ j ∈ l, P j) (hx : P x) : ∀ j ∈ l ++ [x], P j :=
    List.forall_mem_append.2 ⟨hl, List.forall_mem_singleton.2 hx⟩
  unfold better
  by_cases hp : (s.src x).presentable t
  · rw [if_pos hp]
    cases best with
    | none => exact ⟨by simp, hp, hcover (fun j hj hfit => absurd hfit (h j hj)) fun _ => s.outranks_refl x⟩
    | some i =>
      obtain ⟨hmem, hi, hbest⟩ := h
      dsimp only
      split
      · next hhigher =>
        exact ⟨by simp, hp,
          hcover (fun j hj hfit => State.outranks_of_higher hhigher (hbest j hj hfit)) fun _ => s.outranks_refl x⟩
      · next hnot =>
        have hkept : s.outranks i x := by
          by_cases hsame : (s.src x).entry.level = (s.src i).entry.level
          · exact .inr ⟨hsame, (hlast i hmem).le⟩
          · exact .inl (by bv_omega)
        exact ⟨by simp [hmem], hi, hcover hbest fun _ => hkept⟩
  · rw [if_neg hp]
    cases best with
    | none => exact hcover h hp
    | some i =>
      obtain ⟨hmem, hi, hbest⟩ := h
      exact ⟨by simp [hmem], hi, hcover hbest fun hfit => absurd hfit hp⟩

/-- The fold finds the best of any list of sources in ascending number. -/
theorem foldl_better_bestOf (s : State) (t : TargetId) (l : List SourceId) (hl : l.Pairwise (· < ·)) :
    BestOf s t l (l.foldl (better s t) none) := by
  induction l using List.reverseRecOn with
  | nil => exact fun _ hj => nomatch hj
  | append_singleton l x ih =>
    obtain ⟨hinit, -, hlast⟩ := List.pairwise_append.1 hl
    rw [List.foldl_concat]
    exact (ih hinit).concat fun j hj => hlast j hj x (by simp)

theorem candidate_bestOf (s : State) (t : TargetId) : BestOf s t allSources (s.candidate t) :=
  foldl_better_bestOf s t allSources (List.pairwise_lt_finRange 38)

theorem mem_allSources (i : SourceId) : i ∈ allSources := List.mem_finRange i

theorem State.candidate_eq_none_iff (s : State) (t : TargetId) :
    s.candidate t = none ↔ ∀ i, ¬ (s.src i).presentable t := by
  have hbest := candidate_bestOf s t
  cases hc : s.candidate t with
  | none =>
    rw [hc] at hbest
    exact iff_of_true rfl fun i => hbest i (mem_allSources i)
  | some i =>
    rw [hc] at hbest
    obtain ⟨-, hi, -⟩ := hbest
    exact iff_of_false nofun fun hnone => hnone i hi

theorem State.candidate_eq_some_iff (s : State) (t : TargetId) (i : SourceId) :
    s.candidate t = some i ↔
      (s.src i).presentable t ∧ ∀ j, (s.src j).presentable t → s.outranks i j := by
  have hbest := candidate_bestOf s t
  constructor
  · intro hc
    rw [hc] at hbest
    obtain ⟨-, hi, hmax⟩ := hbest
    exact ⟨hi, fun j => hmax j (mem_allSources j)⟩
  · rintro ⟨hi, hmax⟩
    cases hc : s.candidate t with
    | none => exact absurd hi ((s.candidate_eq_none_iff t).1 hc i)
    | some k =>
      rw [hc] at hbest
      obtain ⟨-, hk, hkmax⟩ := hbest
      rw [State.outranks_antisymm (hkmax i (mem_allSources i) hi) (hmax k hk)]

/-- Settles O26: the fold over the sources in ascending number keeps the best of those it has passed. -/
theorem candidateIsTheBestPresentableSource : Obligations.CandidateIsTheBestPresentableSource := by
  intro s t
  simp only [← Source.presentable_iff]
  exact ⟨s.candidate_eq_some_iff t, s.candidate_eq_none_iff t⟩

/-! ### The CPL (R59) -/

theorem Target.cpl_of_empty {x : Target} (h : x.stack = []) : x.cpl = x.floor := by
  simp [Target.cpl, h]

theorem Target.cpl_of_top {x : Target} {below : List (SourceId × BitVec 5)} {i : SourceId} {level : BitVec 5}
    (h : x.stack = below ++ [(i, level)]) : x.cpl = if x.floor < level then level else x.floor := by
  simp [Target.cpl, h]

/-! ### The offer (R61) -/

theorem State.offerable_iff (s : State) (t : TargetId) (level : BitVec 5) :
    s.offerable t level = true ↔
      (s.tgt t).cpl < level ∧ (s.tgt t).stack.length < 8 ∧ (s.tgt t).hold = false ∧ (s.restart t).state = .run := by
  simp only [State.offerable, State.running, Bool.and_eq_true, Bool.not_eq_true', decide_eq_true_eq, and_assoc]
  rw [Config.stackDepth]

theorem State.offer_eq_some_iff (s : State) (t : TargetId) (i : SourceId) :
    s.offer t = some i ↔ s.candidate t = some i ∧ s.offerable t (s.src i).entry.level = true := by
  unfold State.offer
  cases s.candidate t with
  | none => simp
  | some k =>
    simp only [Option.some.injEq, ite_eq_iff, reduceCtorEq, and_false, or_false]
    constructor
    · rintro ⟨hk, rfl⟩; exact ⟨rfl, hk⟩
    · rintro ⟨rfl, hk⟩; exact ⟨hk, rfl⟩

theorem State.offerLevel_of_some {s : State} {t : TargetId} {i : SourceId} (h : s.offer t = some i) :
    s.offerLevel t = (s.src i).entry.level := by
  simp [State.offerLevel, h]

theorem State.offerLevel_of_none {s : State} {t : TargetId} (h : s.offer t = none) : s.offerLevel t = 0 := by
  simp [State.offerLevel, h]

/-- Settles O27: the conditions on the target are `State.offerable`, and the CPL is read off the top of the stack. -/
theorem offerNeedsAllFourConditions : Obligations.OfferNeedsAllFourConditions := by
  intro s t
  simp only [← State.offerable_iff]
  exact ⟨s.offer_eq_some_iff t, fun _ => State.offerLevel_of_some, State.offerLevel_of_none, Target.cpl_of_empty,
    fun _ _ _ => Target.cpl_of_top⟩

end Sys2Proof.Machine
end

section
/-! PROOFS. Taking and completing (spec/04): what a host read of TGT_TAKE or TGT_TAKE_URGENT and a host write to TGT_DONE
do in each state of the target (R48, R63, R64, R67 to R69). Settles O28, O30 and O31. -/

namespace Sys2Proof.Machine

open Sys2Proof

/-! ### The target that a step finds -/

@[simp] theorem State.enter_tgt (s : State) (m : Moment) (t : TargetId) : (s.enter m).tgt t = s.tgt t :=
  State.tgt_congr (State.enter_targets s m) t

@[simp] theorem State.enter_restart (s : State) (m : Moment) (t : TargetId) : (s.enter m).restart t = s.restart t :=
  State.restart_congr (State.enter_restarts s m) t

@[simp] theorem State.enter_running (s : State) (m : Moment) (t : TargetId) : (s.enter m).running t = s.running t := by
  simp [State.running]

@[simp] theorem State.enter_candidate (s : State) (m : Moment) (t : TargetId) :
    (s.enter m).candidate t = s.candidate t := by
  have hbetter : better (s.enter m) t = better s t := by
    funext best i
    simp [better]
  rw [State.candidate, hbetter, State.candidate]

@[simp] theorem State.enter_offer (s : State) (m : Moment) (t : TargetId) : (s.enter m).offer t = s.offer t := by
  simp [State.offer, State.offerable]

theorem State.running_iff (s : State) (t : TargetId) : s.running t = true ↔ (s.restart t).state = .run := by
  simp [State.running]

theorem State.running_eq_false_iff (s : State) (t : TargetId) : s.running t = false ↔ (s.restart t).state ≠ .run := by
  simp [State.running]

/-- Only a target in RUN has an offer (R61). -/
theorem State.running_of_offer {s : State} {t : TargetId} {i : SourceId} (h : s.offer t = some i) :
    s.running t = true := by
  obtain ⟨-, hoffer⟩ := (s.offer_eq_some_iff t i).1 h
  obtain ⟨-, -, -, hrun⟩ := (s.offerable_iff t _).1 hoffer
  exact (s.running_iff t).2 hrun

/-! ### The two taking reads outside RUN and in RUN (R63, R67) -/

theorem hostRead_taking_of_restarting {s : State} {t : TargetId} {it : TargetItem} (hit : it = .take ∨ it = .takeUrgent)
    (h : s.running t = false) (num : ItemNumber) (priv : Bool) :
    hostRead s num priv (.tgt t it) = s.hostRefused num .restarting false priv := by
  obtain rfl | rfl := hit <;>
    exact hostRead_refused (by simp [hostAccess]) (fun _ => nofun) (by simp [State.readRefusal, h])

theorem hostRead_taking_of_running {s : State} {t : TargetId} {it : TargetItem} (hit : it = .take ∨ it = .takeUrgent)
    (h : s.running t = true) (num : ItemNumber) (priv : Bool) :
    hostRead s num priv (.tgt t it) = (consume s (.tgt t it)).hostDone (s.targetWord t it) := by
  obtain rfl | rfl := hit <;>
    exact hostRead_done (by simp [hostAccess]) (fun _ => nofun) (by simp [State.readRefusal, h])

/-! ### TGT_TAKE (R63, R64) -/

theorem exec_tgtTake_of_free {s : State} (hf : s.hostFree) (m : Moment) (priv : Bool) (t : TargetId) :
    exec (.tgtTake m priv t) s =
      .next (endOfStep (hostRead (s.enter m) (.ofNat 16 (0x0200 + 16 * t.val)) priv (.tgt t .take))) := by
  have hexec : exec (.tgtTake m priv t) s = execTgtTake m priv t s := rfl
  rw [hexec, execTgtTake, hostReadStep_of_free hf]
  rfl

theorem takeOffer_of_none {s : State} {t : TargetId} (h : s.offer t = none) : takeOffer s t = s := by
  simp [takeOffer, h]

theorem takeOffer_of_some {s : State} {t : TargetId} {i : SourceId} (h : s.offer t = some i) :
    takeOffer s t = takeSource s t i := by
  simp [takeOffer, h]

theorem State.takeWord_of_none {s : State} {t : TargetId} (h : s.offer t = none) : s.takeWord t = emptyDispatch := by
  simp [State.takeWord, h]

theorem State.takeWord_of_some {s : State} {t : TargetId} {i : SourceId} (h : s.offer t = some i) :
    s.takeWord t =
      dispatchWord i (s.src i).entry.level ((s.tgt t).stack.length + 1) (s.src i).entry.tag := by
  simp [State.takeWord, h]

/-- Settles O28: the offer that the read finds is the offer before the step, and a target with an offer is in RUN. -/
theorem takeAcceptsTheOffer : Obligations.TakeAcceptsTheOffer := by
  intro m s t priv hf
  dsimp only
  rw [exec_tgtTake_of_free hf, ← State.running_eq_false_iff, ← State.running_iff]
  refine ⟨fun hrestarting => ?_, fun hrun hnone => ?_, fun i hoffer => ?_⟩
  · rw [hostRead_taking_of_restarting (.inl rfl) (by simpa using hrestarting)]
  · have hfound : (s.enter m).offer t = none := by simpa using hnone
    rw [hostRead_taking_of_running (.inl rfl) (by simpa using hrun), consume, State.targetWord,
      takeOffer_of_none hfound, State.takeWord_of_none hfound, emptyDispatch]
  · have hfound : (s.enter m).offer t = some i := by simpa using hoffer
    rw [hostRead_taking_of_running (.inl rfl) (by simpa using State.running_of_offer hoffer), consume,
      State.targetWord, takeOffer_of_some hfound, State.takeWord_of_some hfound, takeSource, State.setSrcState,
      State.enter_src, State.enter_tgt]

/-! ### TGT_TAKE_URGENT (R67) -/

theorem exec_tgtTakeUrgent_of_free {s : State} (hf : s.hostFree) (m : Moment) (priv : Bool) (t : TargetId) :
    exec (.tgtTakeUrgent m priv t) s =
      .next (endOfStep
        (hostRead (s.enter m) (.ofNat 16 (0x0200 + 16 * t.val + 1)) priv (.tgt t .takeUrgent))) := by
  have hexec : exec (.tgtTakeUrgent m priv t) s = execTgtTakeUrgent m priv t s := rfl
  rw [hexec, execTgtTakeUrgent, hostReadStep_of_free hf]
  rfl

theorem takeUrgent_of_nil {s : State} {t : TargetId} (h : (s.tgt t).urgent = []) : takeUrgent s t = s := by
  simp [takeUrgent, h]

theorem takeUrgent_of_cons {s : State} {t : TargetId} {i : SourceId} {rest : List SourceId}
    (h : (s.tgt t).urgent = i :: rest) :
    takeUrgent s t = (s.setSrcState i .idle).setTgt t { s.tgt t with urgent := rest } := by
  simp [takeUrgent, h]

theorem State.takeUrgentWord_of_nil {s : State} {t : TargetId} (h : (s.tgt t).urgent = []) :
    s.takeUrgentWord t = emptyDispatch := by
  simp [State.takeUrgentWord, h]

theorem State.takeUrgentWord_of_cons {s : State} {t : TargetId} {i : SourceId} {rest : List SourceId}
    (hrun : s.running t = true) (h : (s.tgt t).urgent = i :: rest) :
    s.takeUrgentWord t = dispatchWord i 0 0 (s.src i).entry.tag := by
  simp [State.takeUrgentWord, hrun, h]

/-- Settles O30: the queue that the read finds is the queue before the step. -/
theorem urgentTakeRemovesTheHead : Obligations.UrgentTakeRemovesTheHead := by
  intro m s t priv hf
  dsimp only
  rw [exec_tgtTakeUrgent_of_free hf, ← State.running_eq_false_iff, ← State.running_iff]
  refine ⟨fun hrestarting => ?_, fun hrun hempty => ?_, fun i rest hrun hhead => ?_⟩
  · rw [hostRead_taking_of_restarting (.inr rfl) (by simpa using hrestarting)]
  · have hfound : ((s.enter m).tgt t).urgent = [] := by simpa using hempty
    rw [hostRead_taking_of_running (.inr rfl) (by simpa using hrun), consume, State.targetWord,
      takeUrgent_of_nil hfound, State.takeUrgentWord_of_nil hfound, emptyDispatch]
  · have hfound : ((s.enter m).tgt t).urgent = i :: rest := by simpa using hhead
    have hrunning : (s.enter m).running t = true := by simpa using hrun
    rw [hostRead_taking_of_running (.inr rfl) hrunning, consume, State.targetWord, takeUrgent_of_cons hfound,
      State.takeUrgentWord_of_cons hrunning hfound, State.setSrcState, State.enter_src, State.enter_tgt]

/-! ### The source that a completion names (R68) -/

theorem doneSource_of_le {data : Word} (h : 38 ≤ (data.extractLsb' 0 6).toNat) : doneSource data = none :=
  dif_neg (Nat.not_lt.2 h)

theorem doneSource_of_val {data : Word} {i : SourceId} (h : i.val = (data.extractLsb' 0 6).toNat) :
    doneSource data = some i := by
  have hlt : (field data 0 6).toNat < 38 := h ▸ i.isLt
  rw [doneSource, dif_pos hlt, Option.some.injEq]
  exact Fin.ext h.symm

theorem inStack_iff (stack : List (SourceId × BitVec 5)) (i : SourceId) :
    inStack stack i = true ↔ i ∈ stack.map (·.1) := by
  simp [inStack]

/-- A source that leaves service changes its state alone, by the table of completion (R48). -/
theorem Source.leaveService_eq (x : Source) : x.leaveService = { x with state := x.left } := by
  obtain ⟨entry, state, input, merge⟩ := x
  cases htrigger : entry.trigger <;> cases state <;> simp [Source.leaveService, Source.left, htrigger]

/-! ### TGT_DONE (R68, R69) -/

theorem exec_tgtDone_of_free {s : State} (hf : s.hostFree) (m : Moment) (priv : Bool) (t : TargetId) (data : Word) :
    exec (.tgtDone m priv t data) s =
      .next (endOfStep (hostWrite (s.enter m) (.ofNat 16 (0x0200 + 16 * t.val + 2)) priv (.tgt t .done) data)) := by
  have hexec : exec (.tgtDone m priv t data) s = execTgtDone m priv t data s := rfl
  rw [hexec, execTgtDone, hostWriteStep_of_free hf]
  rfl

theorem hostWriteCheck_done_of_le {data : Word} (h : 38 ≤ (data.extractLsb' 0 6).toNat) (s : State) (priv : Bool)
    (t : TargetId) : s.hostWriteCheck priv (.tgt t .done) data = some .badValue := by
  simp [State.hostWriteCheck, hostAccess, State.needsPriv, State.badValue, doneSource_of_le h]

theorem hostWriteCheck_done_of_val {data : Word} {i : SourceId} (h : i.val = (data.extractLsb' 0 6).toNat) (s : State)
    (priv : Bool) (t : TargetId) : s.hostWriteCheck priv (.tgt t .done) data = none :=
  hostWriteCheck_none (.inr rfl) (by simp [State.needsPriv]) (by simp [State.badValue, doneSource_of_val h])

theorem State.doneRefusal_of_restarting {s : State} {t : TargetId} (h : s.running t = false) (data : Word) :
    s.doneRefusal t data = some .restarting := by
  simp [State.doneRefusal, h]

/-- In RUN the service stack decides whether the completion is accepted (R68). -/
theorem State.doneRefusal_of_running {s : State} {t : TargetId} (hrun : s.running t = true) {data : Word} {i : SourceId}
    (h : i.val = (data.extractLsb' 0 6).toNat) :
    s.doneRefusal t data = if i ∈ (s.tgt t).stack.map (·.1) then none else some .notInService := by
  simp only [State.doneRefusal, hrun, doneSource_of_val h, inStack_iff, if_true]

theorem writeItem_done {data : Word} {i : SourceId} (h : i.val = (data.extractLsb' 0 6).toNat) (s : State)
    (t : TargetId) :
    writeItem s (.tgt t .done) data =
      (s.setSrc i { s.src i with state := (s.src i).left }).setTgt t
        { s.tgt t with stack := (s.tgt t).stack.filter (fun e => decide (e.1 ≠ i)) } := by
  simp only [writeItem, writeTarget, doneSource_of_val h, completeSource, Source.leaveService_eq]

/-- A completion of a source that the target does not hold, or of a target outside RUN, is refused by its state. -/
theorem hostWrite_done_refused {s : State} {t : TargetId} {data : Word} {i : SourceId} {r : Reason}
    (h : i.val = (data.extractLsb' 0 6).toNat) (hr : s.doneRefusal t data = some r) (num : ItemNumber) (priv : Bool) :
    hostWrite s num priv (.tgt t .done) data = s.hostRefused num r true priv :=
  hostWrite_refused_state (hostWriteCheck_done_of_val h s priv t) (fun _ => nofun) hr

/-- Settles O31: the refusals come in the order of R68, on the target as it stood before the step. -/
theorem doneCompletesOnlyWhatIsInService : Obligations.DoneCompletesOnlyWhatIsInService := by
  intro m s t priv data hf
  dsimp only
  rw [exec_tgtDone_of_free hf, ← State.running_eq_false_iff, ← State.running_iff]
  refine ⟨fun hbad => ?_, fun hnum hrestarting => ?_, fun i hi hrun => ?_⟩
  · rw [hostWrite_refused (hostWriteCheck_done_of_le hbad _ priv t)]
  · have hi : (⟨_, hnum⟩ : SourceId).val = (data.extractLsb' 0 6).toNat := rfl
    rw [hostWrite_done_refused hi (State.doneRefusal_of_restarting (by simpa using hrestarting) data)]
  · have hjudged := State.doneRefusal_of_running (s := s.enter m) (t := t) (by simpa using hrun) hi
    rw [State.enter_tgt] at hjudged
    refine ⟨fun hout => ?_, fun hin => ?_⟩
    · rw [if_neg hout] at hjudged
      rw [hostWrite_done_refused hi hjudged]
    · rw [if_pos hin] at hjudged
      rw [hostWrite_accepted (hostWriteCheck_done_of_val hi _ priv t) (fun _ => nofun) hjudged, writeItem_done hi,
        State.enter_src, State.enter_tgt]

end Sys2Proof.Machine
end

section
/-! PROOFS. The transfer sequencer (spec/07): what a host write to TSQ_SUBMIT or TSQ_COMMAND does in each state of the
lane (R120, R126, R127, R129). Settles O43 and O44. -/

namespace Sys2Proof.Machine

open Sys2Proof

/-! ### The value check and the effect of a submission (R120) -/

theorem isTxLane_iff (n : LaneId) : isTxLane n = true ↔ n.val = 1 ∨ n.val = 3 := by
  have := n.isLt
  rw [isTxLane, decide_eq_true_iff]
  omega

theorem submitBad_iff (n : LaneId) (a : Assembly) :
    submitBad n a = true ↔
      a.length = 0 ∨ 4096 < a.offset.toNat + a.length.toNat ∨
        ((n.val = 1 ∨ n.val = 3) ∧ (a.stopPresent = true ∨ a.endOnError = true ∨ a.haltOnError = true)) := by
  simp only [submitBad, Bool.or_eq_true, Bool.and_eq_true, decide_eq_true_iff, isTxLane_iff, or_assoc]
  rfl

theorem Lane.submit_of_idle {x : Lane} (h : x.state = .idle) :
    x.submit = { x with state := .running x.asm.job 0 } := by
  simp [Lane.submit, h]

theorem Lane.submit_of_busy {x : Lane} (h : x.state ≠ .idle) :
    x.submit = { x with queue := x.queue ++ [x.asm.job] } := by
  unfold Lane.submit
  split
  · next hidle => exact absurd hidle h
  · rfl

/-! ### A host write to TSQ_SUBMIT -/

section Submit
variable {s : State} {n : LaneId}

theorem hostWriteCheck_submit_of_bad (h : submitBad n (s.lane n).asm = true) (priv : Bool) (data : Word) :
    s.hostWriteCheck priv (.lane n .submit) data = some .badValue := by
  simp [State.hostWriteCheck, hostAccess, State.needsPriv, State.badValue, h]

theorem hostWriteCheck_submit_of_good (h : ¬ submitBad n (s.lane n).asm = true) (priv : Bool) (data : Word) :
    s.hostWriteCheck priv (.lane n .submit) data = none :=
  hostWriteCheck_none (.inr rfl) (by simp [State.needsPriv]) (Bool.eq_false_of_not_eq_true h)

theorem hostWrite_submit_of_full (hgood : ¬ submitBad n (s.lane n).asm = true) (hfull : 8 ≤ (s.lane n).queue.length)
    (num : ItemNumber) (priv : Bool) (data : Word) :
    hostWrite s num priv (.lane n .submit) data = s.hostRefused num .queueFull true priv :=
  hostWrite_refused_state (hostWriteCheck_submit_of_good hgood priv data) (fun _ => nofun) (if_pos hfull)

theorem hostWrite_submit_of_room (hgood : ¬ submitBad n (s.lane n).asm = true) (hroom : (s.lane n).queue.length < 8)
    (num : ItemNumber) (priv : Bool) (data : Word) :
    hostWrite s num priv (.lane n .submit) data = (s.setLane n (s.lane n).submit).hostDone 0 :=
  hostWrite_accepted (hostWriteCheck_submit_of_good hgood priv data) (fun _ => nofun) (if_neg (Nat.not_le.2 hroom))

theorem exec_tsqSubmit_of_free (hf : s.hostFree) (m : Moment) (priv : Bool) (n : LaneId) (data : Word) :
    exec (.tsqSubmit m priv n data) s =
      .next (endOfStep (hostWrite (s.enter m) (.ofNat 16 (0x0500 + 8 * n.val + 2)) priv (.lane n .submit) data)) := by
  have hexec : exec (.tsqSubmit m priv n data) s = execTsqSubmit m priv n data s := rfl
  rw [hexec, execTsqSubmit, hostWriteStep_of_free hf]
  rfl

end Submit

/-- Settles O43: the value check comes before the state check, and both judge the lane as it stood before the step. -/
theorem submissionIsCheckedThenCopied : Obligations.SubmissionIsCheckedThenCopied := by
  intro m s n priv data hf
  dsimp only
  rw [exec_tsqSubmit_of_free hf, ← submitBad_iff, ← State.lane_enter s m n]
  refine ⟨fun hbad => ?_, fun hgood hfull => ?_, fun hgood hroom hidle => ?_, fun hgood hroom hbusy => ?_⟩
  · rw [hostWrite_refused (hostWriteCheck_submit_of_bad hbad priv data)]
  · rw [hostWrite_submit_of_full hgood hfull]
  · rw [hostWrite_submit_of_room hgood hroom, Lane.submit_of_idle hidle, Assembly.job]
  · rw [hostWrite_submit_of_room hgood hroom, Lane.submit_of_busy hbusy, Assembly.job]

/-! ### What RESUME and ABORT make of a lane (R126, R127) -/

theorem Lane.resume_of_halted {x : Lane} (h : x.state = .halted) : x.resume = x.startNext := by
  simp [Lane.resume, h]

theorem Lane.resume_of_not_halted {x : Lane} (h : x.state ≠ .halted) : x.resume = x := by
  unfold Lane.resume
  split
  · next hhalted => exact absurd hhalted h
  · rfl

theorem Lane.startNext_of_nil {x : Lane} (h : x.queue = []) : x.startNext = { x with state := .idle } := by
  simp [Lane.startNext, h]

theorem Lane.startNext_of_cons {x : Lane} {j : Job} {rest : List Job} (h : x.queue = j :: rest) :
    x.startNext = { x with state := .running j 0, queue := rest } := by
  simp [Lane.startNext, h]

/-- The model's ABORT is the table of R127: a record that finds room leaves the lane with no job to start. -/
theorem Lane.abort_eq_aborted (x : Lane) : x.abort = x.aborted := by
  obtain ⟨state, queue, records, discarded, asm⟩ := x
  cases state with
  | idle => rfl
  | running job moved =>
    by_cases hroom : records.length < Config.laneDepth <;>
      simp [Lane.abort, Lane.aborted, Lane.placeRecord, Lane.discardQueue, addDiscarded, Lane.startNext, hroom]
  | halted => rfl
  | waitRecord r outcome => rfl

/-- A lane that does not change leaves the state as it is. -/
theorem State.setLane_lane (s : State) (n : LaneId) : s.setLane n (s.lane n) = s := by
  simp [State.setLane, State.lane]

/-! ### A host write to TSQ_COMMAND -/

/-- Bits 1:0 of a written word are the command, whatever the item's ignored bits hold. -/
theorem field_append_command (high : BitVec 30) (c : BitVec 2) : field (high ++ c) 0 2 = c := by
  exact BitVec.extractLsb'_append_eq_right

theorem hostWrite_command_of_reserved {c : BitVec 2} (h : c = 0 ∨ c = 3) (s : State) (num : ItemNumber) (priv : Bool)
    (n : LaneId) (high : BitVec 30) :
    hostWrite s num priv (.lane n .command) (high ++ c) = s.hostRefused num .badValue true priv := by
  apply hostWrite_refused
  have hbad : s.badValue (.lane n .command) (high ++ c) = true := by
    rw [State.badValue, field_append_command]
    exact decide_eq_true h
  simp [State.hostWriteCheck, hostAccess, State.needsPriv, hbad]

theorem hostWrite_command_of_known {c : BitVec 2} (h : ¬ (c = 0 ∨ c = 3)) (s : State) (num : ItemNumber)
    (priv : Bool) (n : LaneId) (high : BitVec 30) :
    hostWrite s num priv (.lane n .command) (high ++ c) = (s.setLane n ((s.lane n).command c)).hostDone 0 := by
  have hcheck : s.hostWriteCheck priv (.lane n .command) (high ++ c) = none :=
    hostWriteCheck_none (.inr rfl) (by simp [State.needsPriv])
      (by rw [State.badValue, field_append_command]; exact decide_eq_false h)
  rw [hostWrite_accepted hcheck (fun _ => nofun) rfl, writeItem, writeLane, field_append_command]

theorem exec_resume_of_free {s : State} (hf : s.hostFree) (m : Moment) (priv : Bool) (n : LaneId) (high : BitVec 30) :
    exec (.resume m priv n high) s =
      .next (endOfStep (((s.enter m).setLane n (s.lane n).resume).hostDone 0)) := by
  have hexec : exec (.resume m priv n high) s = execResume m priv n high s := rfl
  rw [hexec, execResume, hostWriteStep_of_free hf, hostWrite_command_of_known (by decide), State.lane_enter]
  rfl

theorem exec_abort_of_free {s : State} (hf : s.hostFree) (m : Moment) (priv : Bool) (n : LaneId) (high : BitVec 30) :
    exec (.abort m priv n high) s =
      .next (endOfStep (((s.enter m).setLane n (s.lane n).abort).hostDone 0)) := by
  have hexec : exec (.abort m priv n high) s = execAbort m priv n high s := rfl
  rw [hexec, execAbort, hostWriteStep_of_free hf, hostWrite_command_of_known (by decide), State.lane_enter]
  rfl

theorem decodeItem_tsqCommand :
    ∀ n : LaneId, decodeItem (BitVec.ofNat 16 (0x0500 + 8 * n.val + 3)) = some (.lane n .command) := by
  decide

/-- Settles O44: the two rows write TSQ_COMMAND with a known command, the codes 0 and 3 reach it by its item number. -/
theorem resumeAndAbort : Obligations.ResumeAndAbort := by
  intro m s n priv high hf
  dsimp only
  rw [exec_resume_of_free hf, exec_abort_of_free hf, Lane.abort_eq_aborted]
  refine ⟨fun hhalted hnil => ?_, fun j rest hhalted hcons => ?_, fun hother => ?_, rfl, fun c hc => ?_⟩
  · rw [Lane.resume_of_halted hhalted, Lane.startNext_of_nil hnil]
  · rw [Lane.resume_of_halted hhalted, Lane.startNext_of_cons hcons]
  · rw [Lane.resume_of_not_halted hother, ← State.lane_enter s m n, State.setLane_lane]
  · rw [exec_hostTransactionBegin_write hf m priv (decodeItem_tsqCommand n), hostWrite_command_of_reserved hc]

end Sys2Proof.Machine
end

section
/-! PROOFS. The item directory (spec/11): HUB_ID, the one constant of the directory, from both ports (R164). Settles O21. -/

namespace Sys2Proof.Machine

open Sys2Proof

theorem decodeItem_hubId : decodeItem 0x0000 = some (.hub .ident) := rfl

/-- HUB_ID has the one value of R164 in every state. -/
theorem itemWord_hubId (s : State) : s.itemWord (.hub .ident) = 0x000101B8 := rfl

/-! ### A register write of the host -/

/-- The row of register writes is the write transaction to the item it names. -/
theorem exec_registerWrite (m : Moment) (priv : Bool) (num : ItemNumber) (data : Word) (s : State) :
    exec (.registerWrite m priv num data) s = exec (.hostTransactionBegin m true priv num data) s := rfl

/-! ### READ and WRITE frames -/

theorem exec_read (m : Moment) (arg : BitVec 16) (s : State) : exec (.read m arg) s = execRead m arg s := rfl

theorem exec_write (m : Moment) (arg : BitVec 16) (data : Word) (s : State) :
    exec (.write m arg data) s = execWrite m arg data s := rfl

/-- A READ frame that the port executes answers what `readItem` does on the state it finds. -/
theorem exec_read_frame {s : State} {m : Moment} (h : s.svcFree m) {arg : BitVec 16} {u : State} {r : Reason}
    {w : Word} (he : readItem arg (s.arrive m) = ⟨u, r, w⟩) :
    ∃ t, exec (.read m arg) s = .next t ∧ ReadFrame (s.arrive m) t u 0x01 arg r w := by
  refine ⟨_, exec_read m arg s, ?_⟩
  have hframe := readCommand_frame h 0x01 arg (readItem arg)
  rwa [he] at hframe

/-- A WRITE frame that the port executes posts what `writeItemCommand` answers on the state it finds. -/
theorem exec_write_frame {s : State} {m : Moment} (h : s.svcFree m) {arg : BitVec 16} {data : Word} {u : State}
    {r : Reason} (he : writeItemCommand arg data (s.arrive m) = ⟨u, r, 0⟩) :
    ∃ t, exec (.write m arg data) s = .next t ∧ WriteFrame (s.arrive m) t u r 0x10 arg data := by
  refine ⟨_, exec_write m arg data s, ?_⟩
  have hframe := writeCommand_frame h 0x10 arg data (writeItemCommand arg data)
  rwa [he] at hframe

/-- A READ of an item that the service port sees returns its value and changes nothing (R26). -/
theorem readItem_of_seen {arg : BitVec 16} {it : Item} (hd : decodeItem arg = some it) (ha : svcAccess it ≠ .none)
    (s : State) : readItem arg s = ⟨s, .ok, s.itemWord it⟩ := by
  simp [readItem, hd, ha]

/-- A WRITE of an item that the service port only reads is refused before its value is looked at (R26). -/
theorem writeItemCommand_readOnly {arg : BitVec 16} {it : Item} (hd : decodeItem arg = some it)
    (ha : svcAccess it = .read) (data : Word) (s : State) : writeItemCommand arg data s = ⟨s, .readOnly, 0⟩ := by
  simp [writeItemCommand, hd, ha, refuseCommand]

/-! ### HUB_ID -/

/-- Settles O21: HUB_ID is an item that both ports only read and whose reads consume nothing; a host write is refused by
its direction before HPRIV is looked at. -/
theorem hubIdIdentifiesThePart : Obligations.HubIdIdentifiesThePart := by
  intro m s priv data
  have hhost : hostAccess (.hub .ident) = .read := rfl
  have hsvc : svcAccess (.hub .ident) = .read := rfl
  have hkeeps : consumes (.hub .ident) = false := rfl
  refine ⟨fun hf => ⟨?_, ?_⟩, fun hf => ⟨?_, ?_⟩⟩
  · rw [exec_hostTransactionBegin_read hf m priv decodeItem_hubId, hostRead_of_not_consumes hkeeps (by simp [hhost]),
      itemWord_hubId]
  · rw [exec_registerWrite, exec_hostTransactionBegin_write hf m priv decodeItem_hubId,
      hostWrite_refused (hostWriteCheck_readOnly hhost ..)]
  · exact exec_read_frame hf (readItem_of_seen decodeItem_hubId (by simp [hsvc]) _)
  · exact exec_write_frame hf (writeItemCommand_readOnly decodeItem_hubId hsvc data _)

end Sys2Proof.Machine
end


section
/-! PROOFS. The item directory (spec/11): the numbers of the items, both ways (R159). Settles O9. -/

namespace Sys2Proof

/-! ### The index within a unit -/

theorem HubItem.index_of_decode {n : Nat} {i : HubItem} (h : decodeHubItem n = some i) : i.index = n := by
  unfold decodeHubItem at h
  split at h <;> cases h <;> rfl

theorem TargetItem.index_of_decode {n : Nat} {i : TargetItem} (h : decodeTargetItem n = some i) : i.index = n := by
  unfold decodeTargetItem at h
  split at h <;> cases h <;> rfl

theorem LineItem.index_of_decode {n : Nat} {i : LineItem} (h : decodeLineItem n = some i) : i.index = n := by
  unfold decodeLineItem at h
  split at h <;> cases h <;> rfl

theorem LaneItem.index_of_decode {n : Nat} {i : LaneItem} (h : decodeLaneItem n = some i) : i.index = n := by
  unfold decodeLaneItem at h
  split at h <;> cases h <;> rfl

theorem TimerItem.index_of_decode {n : Nat} {i : TimerItem} (h : decodeTimerItem n = some i) : i.index = n := by
  unfold decodeTimerItem at h
  split at h <;> cases h <;> rfl

theorem RestartItem.index_of_decode {n : Nat} {i : RestartItem} (h : decodeRestartItem n = some i) : i.index = n := by
  unfold decodeRestartItem at h
  split at h <;> cases h <;> rfl

theorem AlertItem.index_of_decode {n : Nat} {i : AlertItem} (h : decodeAlertItem n = some i) : i.index = n := by
  unfold decodeAlertItem at h
  split at h <;> cases h <;> rfl

/-! ### From a number to its item -/

/-- The number of the item at an index of one of the units with several sub-blocks, and of staging memory. -/
theorem numberNat_of_decodeSourceItem {i : Nat} {it : Item} (h : decodeSourceItem i = some it) :
    it.numberNat = 0x100 + i := by
  unfold decodeSourceItem at h
  split_ifs at h <;> cases h <;> simp only [Item.numberNat] <;> omega

theorem numberNat_of_decodeTargetUnit {i : Nat} {it : Item} (h : decodeTargetUnit i = some it) :
    it.numberNat = 0x200 + i := by
  unfold decodeTargetUnit at h
  split_ifs at h
  obtain ⟨j, hj, rfl⟩ := Option.map_eq_some_iff.1 h
  have := TargetItem.index_of_decode hj
  simp only [Item.numberNat]
  omega

theorem numberNat_of_decodeLaneUnit {i : Nat} {it : Item} (h : decodeLaneUnit i = some it) :
    it.numberNat = 0x500 + i := by
  unfold decodeLaneUnit at h
  split_ifs at h
  obtain ⟨j, hj, rfl⟩ := Option.map_eq_some_iff.1 h
  have := LaneItem.index_of_decode hj
  simp only [Item.numberNat]
  omega

theorem numberNat_of_decodeTimerUnit {i : Nat} {it : Item} (h : decodeTimerUnit i = some it) :
    it.numberNat = 0x600 + i := by
  unfold decodeTimerUnit at h
  split_ifs at h
  · cases h
    simp only [Item.numberNat]
    omega
  · obtain ⟨j, hj, rfl⟩ := Option.map_eq_some_iff.1 h
    have := TimerItem.index_of_decode hj
    simp only [Item.numberNat]
    omega

theorem numberNat_of_decodeUnit {u i : Nat} {it : Item} (h : decodeUnit u i = some it) : it.numberNat = 256 * u + i := by
  unfold decodeUnit at h
  split at h
  · obtain ⟨j, hj, rfl⟩ := Option.map_eq_some_iff.1 h
    simpa [Item.numberNat] using HubItem.index_of_decode hj
  · exact numberNat_of_decodeSourceItem h
  · exact numberNat_of_decodeTargetUnit h
  · obtain ⟨j, hj, rfl⟩ := Option.map_eq_some_iff.1 h
    simpa [Item.numberNat, LineId.unit] using LineItem.index_of_decode hj
  · obtain ⟨j, hj, rfl⟩ := Option.map_eq_some_iff.1 h
    simpa [Item.numberNat, LineId.unit] using LineItem.index_of_decode hj
  · exact numberNat_of_decodeLaneUnit h
  · exact numberNat_of_decodeTimerUnit h
  · obtain ⟨j, hj, rfl⟩ := Option.map_eq_some_iff.1 h
    simpa [Item.numberNat] using RestartItem.index_of_decode hj
  · unfold decodeSnapUnit at h
    split_ifs at h
    cases h
    rfl
  · obtain ⟨j, hj, rfl⟩ := Option.map_eq_some_iff.1 h
    simpa [Item.numberNat] using AlertItem.index_of_decode hj
  · unfold decodeStaging at h
    split_ifs at h
    cases h
    simp only [Item.numberNat]
    omega

theorem numberNat_of_decodeItem {n : ItemNumber} {it : Item} (h : decodeItem n = some it) : it.numberNat = n.toNat := by
  rw [numberNat_of_decodeUnit h]
  omega

/-! ### From an item to its number and back -/

/-- Staging memory takes the four units 0x0A to 0x0D (R116). -/
theorem decodeUnit_staging (j i : Nat) : decodeUnit (10 + j) i = decodeStaging (256 * j + i) := by
  have hunit : decodeUnit (j + 10) i = if j + 10 < 0x0A then none else decodeStaging (256 * (j + 10 - 0x0A) + i) := rfl
  rw [Nat.add_comm, hunit, if_neg (by omega), Nat.add_sub_cancel]

theorem decodeItem_number_staging (k : Fin 1024) : decodeItem (Item.staging k).number = some (.staging k) := by
  have hnat : (Item.staging k).number.toNat = 0xA00 + k.val := by
    simp only [Item.number, Item.numberNat, BitVec.toNat_ofNat]
    omega
  rw [decodeItem, hnat, show (0xA00 + k.val) / 256 = 10 + k.val / 256 by omega, decodeUnit_staging,
    show 256 * (k.val / 256) + (0xA00 + k.val) % 256 = k.val by omega, decodeStaging, dif_pos k.isLt]

/-- The number of an item names that item. -/
theorem decodeItem_number (it : Item) : decodeItem it.number = some it := by
  cases it with
  | hub i => cases i <;> rfl
  | srcEntry src => revert src; decide
  | srcStatus src => revert src; decide
  | tgt t i =>
    cases i with
    | stack k => revert t k; decide
    | _ => revert t; decide
  | line l i => cases l <;> cases i <;> rfl
  | lane n i => cases i <;> revert n <;> decide
  | tickLength => rfl
  | timer n i => cases i <;> revert n <;> decide
  | rsc i =>
    cases i with
    | target t => revert t; decide
    | _ => rfl
  | snap k => revert k; decide
  | alert i => cases i <;> rfl
  | staging k => exact decodeItem_number_staging k

/-- Settles O9: the number that decodes to an item is its own, and its own number decodes to it. -/
theorem itemNumbersNameExactlyTheirItems : Obligations.ItemNumbersNameExactlyTheirItems := by
  intro n it
  constructor
  · intro h
    rw [Item.number, numberNat_of_decodeItem h, BitVec.ofNat_toNat, BitVec.setWidth_eq]
  · rintro rfl
    exact decodeItem_number it

end Sys2Proof
end


section
/-! PROOFS. What a step finds at its instant, and the rows of the host port as host transactions to their items' numbers
(R1, R12, R151). Settles O12. -/

namespace Sys2Proof.Machine

open Sys2Proof

/-! ### What a step finds -/

theorem State.arrive_eq (s : State) (m : Moment) :
    s.arrive m =
      { s with
        now := s.now + m.gap
        pins := m.pins
        sched :=
          if m.gap = 0 then s.sched else { s.sched with passed7 := false, passed8 := false, moved := [] }
        host := s.host.reqSeen m.pins.hreq
        svc := if m.gap = 0 then s.svc else s.look.svc
        raised := [] } := by
  rw [← seeReq_eq]
  rfl

/-- A look at the pins moves the frame parser and nothing else. -/
theorem State.look_eq (s : State) :
    s.look =
      { s with svc := { s.svc with
          frame := s.look.svc.frame
          waitRelease := s.look.svc.waitRelease
          sel := s.look.svc.sel
          clk := s.look.svc.clk
          aborts := s.look.svc.aborts } } := by
  have hsvc : s.look.svc =
      { s.svc with
        frame := s.look.svc.frame
        waitRelease := s.look.svc.waitRelease
        sel := s.look.svc.sel
        clk := s.look.svc.clk
        aborts := s.look.svc.aborts } := by
    rw [State.look_svc]
    split
    · rfl
    · exact ServicePort.see_eq ..
  rw [← hsvc]
  rfl

/-! ### The host rows -/

section Rows
variable {it : Item} {num : ItemNumber}

theorem hostReadStep_eq_transaction (h : it.number = num) (m : Moment) (priv : Bool) (s : State) :
    .next (hostReadStep m priv it s) = exec (.hostTransactionBegin m false priv num 0) s := by
  rw [exec_hostTransactionBegin, execHostTransactionBegin, ← h, decodeItem_number]
  rfl

theorem hostWriteStep_eq_transaction (h : it.number = num) (m : Moment) (priv : Bool) (data : Word) (s : State) :
    .next (hostWriteStep m priv it data s) = exec (.hostTransactionBegin m true priv num data) s := by
  rw [exec_hostTransactionBegin, execHostTransactionBegin, ← h, decodeItem_number]
  rfl

end Rows

/-- Every host row is the host transaction that it presents (R1). -/
theorem exec_of_access {c : Instr} {write priv : Bool} {num : ItemNumber} {data : Word}
    (h : c.access = some (write, priv, num, data)) (s : State) :
    exec c s = exec (.hostTransactionBegin c.moment write priv num data) s := by
  cases c with
  | hostTransactionBegin | registerWrite => cases h; rfl
  | lineRxWait | tgtTake | tgtTakeUrgent | doorbellWord | lineRx | tsqRecord =>
    cases h
    exact hostReadStep_eq_transaction rfl ..
  | hubFaultAck | hubFlowCount | hubClearAll | lineTxWait | srcEntry | srcStatus | tgtDone | tgtFloor | tgtUrgentStatus
  | lineStart | lineStop | lineClear | lineTx | linePerr | releaseLine | reclaimLine | unlockSeize | tsqSubmit | resume
  | abort | tsqDiscarded | ttmTick | start | stop | ack | ttmStatus | rscRestart =>
    cases h
    exact hostWriteStep_eq_transaction rfl ..
  | _ => cases h

/-- While a request is held no other transaction begins (R1, R12). -/
theorem hostAct_of_held {s : State} (h : s.heldRequest ≠ none) (write priv : Bool) (num : ItemNumber) (it : Option Item)
    (data : Word) : hostAct write priv num it data s = s := by
  unfold hostAct
  cases hs : s.heldRequest with
  | none => exact absurd hs h
  | some r => rfl

/-- Settles O12: an item's number names it, so the row of an item and the transaction to its number are one step. -/
theorem hostRowsPresentTheirTransaction : Obligations.HostRowsPresentTheirTransaction := by
  refine ⟨fun m s => ⟨s.arrive_eq m, s.enter_eq m, s.look_eq⟩, fun c write priv num data s h => ?_⟩
  refine ⟨exec_of_access h s, fun hreset hheld => ?_⟩
  rw [exec_of_access h, exec_hostTransactionBegin, execHostTransactionBegin, takeStep_of_high hreset,
    hostAct_of_held (by simpa using hheld)]

end Sys2Proof.Machine
end


section
/-! PROOFS. What keeps one record consistent: the host port (R1), a line (spec/05, spec/06), a lane (R118) and a timer
(R133) under each operation of the model on that record. -/

namespace Sys2Proof.Machine

open Sys2Proof

/-! ### The host port (R1) -/

/-- The host bus protocol, said of the port alone: `HostInv` of a state whose port this is. -/
def HostPort.Ok (h : HostPort) : Prop :=
  (h.hdone && h.hrefuse) = false ∧ ((h.hdone || h.hrefuse) = true ↔ h.phase = .completed)

theorem hostInv_iff (s : State) : HostInv s ↔ s.host.Ok := Iff.rfl

/-- A completion drives one of HDONE and HREFUSE, or neither when HREQ is already released. -/
theorem HostPort.ok_of_completion {h : HostPort} {hreq done : Bool} (hphase : h.phase = if hreq then .completed else .idle)
    (hdone : h.hdone = (hreq && done)) (hrefuse : h.hrefuse = (hreq && !done)) : h.Ok := by
  cases hreq <;> cases done <;> simp [HostPort.Ok, hphase, hdone, hrefuse]

theorem HostPort.Ok.reqSeen {h : HostPort} (hok : h.Ok) (hreq : Bool) : (h.reqSeen hreq).Ok := by
  unfold HostPort.reqSeen
  split
  · simp [HostPort.Ok]
  · exact hok

/-! ### A line (spec/05, spec/06) -/

/-- A line keeps what the rules say of it when its queues grow within their depth and nothing else of it changes but
flags, echo and the arbiter's own settings. -/
theorem Line.Ok.of_same {x y : Line} (h : x.Ok)
    (hq : y.prog.rx.length ≤ Config.queueDepth ∧ y.prog.tx.length ≤ Config.queueDepth ∧
      y.serv.rx.length ≤ Config.queueDepth ∧ y.serv.tx.length ≤ Config.queueDepth)
    (hstate : y.state = x.state) (htx : y.tx = x.tx) (hrx : y.rx.phase = .off ↔ x.rx.phase = .off)
    (hthresh : badThreshold y.rxThresh = false ∧ badThreshold y.txThresh = false) (hctl : y.ctl.clash = false) : y.Ok where
  queuesShort := hq
  stoppedIdle := by rw [hstate, htx]; exact h.stoppedIdle
  drainingBusy := by rw [hstate, htx]; exact h.drainingBusy
  receiverOff := by rw [hstate, hrx]; exact h.receiverOff
  thresholds := hthresh
  distinct := hctl

theorem Line.ok_powerOn : Line.powerOn.Ok :=
  ⟨by decide, by decide, by decide, by decide, by decide, by decide⟩

theorem Line.Ok.started {x : Line} (h : x.Ok) (now : Nat) : (x.started now).Ok := by
  unfold Line.started
  split
  · exact h
  · exact ⟨h.queuesShort, nofun, nofun, by simp, h.thresholds, h.distinct⟩

theorem Line.Ok.stopped {x : Line} (h : x.Ok) : x.stopped.Ok := by
  unfold Line.stopped
  split
  · refine ⟨h.queuesShort, ?_, ?_, ?_, h.thresholds, h.distinct⟩ <;> cases htx : x.tx <;> simp
  · exact h

theorem Line.Ok.cleared {x : Line} (h : x.Ok) (now : Nat) : (x.cleared now).Ok := by
  refine ⟨by simp [Line.cleared, Channel.cleared], fun _ => rfl, ?_, ?_, h.thresholds, h.distinct⟩ <;>
    cases hs : x.state <;> simp [Line.cleared, hs]

theorem Channel.receive_rx_length {c : Channel} (h : c.rx.length ≤ Config.queueDepth) (e : RxEntry) :
    (c.receive e).rx.length ≤ Config.queueDepth := by
  unfold Channel.receive Channel.echoed Channel.setFlags
  dsimp only
  split_ifs <;> simp only [List.length_append, List.length_singleton] <;> omega

theorem Channel.receive_tx_length {c : Channel} (h : c.tx.length ≤ Config.queueDepth) (e : RxEntry) :
    (c.receive e).tx.length ≤ Config.queueDepth := by
  unfold Channel.receive Channel.echoed Channel.setFlags
  dsimp only
  split_ifs <;> simp only [List.length_append, List.length_singleton] <;> omega

theorem Line.Ok.storeEntry {x : Line} (h : x.Ok) (e : RxEntry) : (x.storeEntry e).Ok := by
  obtain ⟨hprx, hptx, hsrx, hstx⟩ := h.queuesShort
  unfold Line.storeEntry Line.setChan Line.chan
  cases x.owner with
  | program =>
    exact h.of_same ⟨Channel.receive_rx_length hprx e, Channel.receive_tx_length hptx e, hsrx, hstx⟩ rfl rfl Iff.rfl
      h.thresholds h.distinct
  | service =>
    exact h.of_same ⟨hprx, hptx, Channel.receive_rx_length hsrx e, Channel.receive_tx_length hstx e⟩ rfl rfl Iff.rfl
      h.thresholds h.distinct

/-- A queue of one channel replaced by one within its depth. -/
theorem Line.Ok.setChan {x : Line} (h : x.Ok) (o : Owner) {c : Channel} (hrx : c.rx.length ≤ Config.queueDepth)
    (htx : c.tx.length ≤ Config.queueDepth) : (x.setChan o c).Ok := by
  obtain ⟨hprx, hptx, hsrx, hstx⟩ := h.queuesShort
  cases o with
  | program => exact h.of_same ⟨hrx, htx, hsrx, hstx⟩ rfl rfl Iff.rfl h.thresholds h.distinct
  | service => exact h.of_same ⟨hprx, hptx, hrx, htx⟩ rfl rfl Iff.rfl h.thresholds h.distinct

theorem Line.Ok.chan_rx {x : Line} (h : x.Ok) (o : Owner) : (x.chan o).rx.length ≤ Config.queueDepth := by
  obtain ⟨hprx, hptx, hsrx, hstx⟩ := h.queuesShort
  cases o <;> assumption

theorem Line.Ok.chan_tx {x : Line} (h : x.Ok) (o : Owner) : (x.chan o).tx.length ≤ Config.queueDepth := by
  obtain ⟨hprx, hptx, hsrx, hstx⟩ := h.queuesShort
  cases o <;> assumption

@[simp] theorem Line.setChan_owner (x : Line) (o : Owner) (c : Channel) : (x.setChan o c).owner = x.owner := by
  cases o <;> rfl
@[simp] theorem Line.setChan_lock (x : Line) (o : Owner) (c : Channel) : (x.setChan o c).lock = x.lock := by
  cases o <;> rfl
@[simp] theorem Line.setChan_state (x : Line) (o : Owner) (c : Channel) : (x.setChan o c).state = x.state := by
  cases o <;> rfl
@[simp] theorem Line.started_owner (x : Line) (now : Nat) : (x.started now).owner = x.owner := by
  unfold Line.started; split <;> rfl
@[simp] theorem Line.started_lock (x : Line) (now : Nat) : (x.started now).lock = x.lock := by
  unfold Line.started; split <;> rfl
@[simp] theorem Line.stopped_owner (x : Line) : x.stopped.owner = x.owner := by unfold Line.stopped; split <;> rfl
@[simp] theorem Line.stopped_lock (x : Line) : x.stopped.lock = x.lock := by unfold Line.stopped; split <;> rfl
@[simp] theorem Line.storeEntry_owner (x : Line) (e : RxEntry) : (x.storeEntry e).owner = x.owner := by
  simp [Line.storeEntry]
@[simp] theorem Line.storeEntry_lock (x : Line) (e : RxEntry) : (x.storeEntry e).lock = x.lock := by
  simp [Line.storeEntry]

/-- A transmitter start on a RUNNING line. -/
theorem Line.Ok.withChar {x : Line} (h : x.Ok) (hrun : x.state = .running) (c : TxChar) :
    ({ x with tx := some c } : Line).Ok :=
  ⟨h.queuesShort, fun hs => absurd (hrun.symm.trans hs) nofun, nofun, h.receiverOff, h.thresholds, h.distinct⟩

/-- A transmitter completion (R91). -/
theorem Line.Ok.withoutChar {x : Line} (h : x.Ok) :
    ({ x with tx := none, state := if x.state = .draining then .stopped else x.state } : Line).Ok := by
  refine ⟨h.queuesShort, fun _ => rfl, ?_, ?_, h.thresholds, h.distinct⟩
  · dsimp only
    split_ifs with hd
    · exact nofun
    · exact fun hs => absurd hs hd
  · rw [h.receiverOff]
    dsimp only
    split_ifs with hd
    · simp [hd]
    · rfl

/-- The receiver of a RUNNING line goes on (R82 to R84). -/
theorem Line.Ok.withReceiver {x : Line} (h : x.Ok) (hrun : x.state = .running) {r : Receiver} (hr : r.phase ≠ .off) :
    ({ x with rx := r } : Line).Ok :=
  h.of_same h.queuesShort rfl rfl (iff_of_false hr fun hoff => h.receiverOff.1 hoff hrun) h.thresholds h.distinct

theorem RxPhase.sample_ne_off {p : RxPhase} (h : p ≠ .off) (f : Format) (mark : Bool) : p.sample f mark ≠ .off := by
  unfold RxPhase.sample
  split
  · exact absurd rfl h
  · split_ifs <;> exact nofun
  · split_ifs <;> exact nofun
  · split_ifs <;> exact nofun
  · split_ifs <;> exact nofun
  · exact h
  · split_ifs <;> exact nofun

theorem phaseAfter_ne_off (e : RxEntry) : phaseAfter e ≠ .off := by
  unfold phaseAfter
  split_ifs <;> exact nofun

/-! ### A lane (R118) -/

theorem Lane.ok_powerOn : Lane.powerOn.Ok := by
  refine ⟨by decide, by decide, fun _ => rfl, ?_, ?_, ?_⟩ <;> exact nofun

/-- A lane whose job has ended, its record in the list or none to place, goes on with its oldest job or none. -/
theorem Lane.ok_startNext {x : Lane} (hq : x.queue.length ≤ Config.laneDepth) (hr : x.records.length ≤ Config.laneDepth)
    (hj : ∀ j ∈ x.queue, j.admissible) : x.startNext.Ok := by
  unfold Lane.startNext
  split
  · next hnil => exact ⟨by simp [hnil], hr, fun _ => hnil, nofun, by simp [hnil], nofun⟩
  · next j rest hcons =>
    rw [hcons] at hq hj
    have hlen : rest.length ≤ Config.laneDepth := by simp only [List.length_cons] at hq; omega
    refine ⟨hlen, hr, nofun, nofun, fun i hi => hj i (List.mem_cons_of_mem _ hi), ?_⟩
    rintro _ _ ⟨⟩
    have hadm := hj j List.mem_cons_self
    exact ⟨hadm, hadm.1⟩

theorem Lane.ok_placeRecord {x : Lane} (hq : x.queue.length ≤ Config.laneDepth)
    (hr : x.records.length ≤ Config.laneDepth) (hj : ∀ j ∈ x.queue, j.admissible) (r : Record) (halts : Bool) :
    (x.placeRecord r halts).Ok := by
  unfold Lane.placeRecord
  split
  · next hroom =>
    have hlen : (x.records ++ [r]).length ≤ Config.laneDepth := by
      simp only [List.length_append, List.length_singleton]; omega
    dsimp only
    split
    · exact ⟨hq, hlen, nofun, nofun, hj, nofun⟩
    · exact Lane.ok_startNext hq hlen hj
  · next hfull =>
    exact ⟨hq, hr, nofun, fun _ _ _ => Nat.le_antisymm hr (Nat.le_of_not_lt hfull), hj, nofun⟩

theorem Lane.Ok.endJob {x : Lane} (h : x.Ok) (job : Job) (st : JobStatus) (moved : Nat) : (x.endJob job st moved).Ok :=
  Lane.ok_placeRecord h.queueShort h.recordsShort h.queueAdmissible _ _

/-- The current job goes on with one more byte moved, and is not at its end. -/
theorem Lane.Ok.goesOn {x : Lane} (h : x.Ok) {job : Job} {moved : Nat} (hrun : x.state = .running job moved)
    (hmore : moved + 1 ≠ job.length.toNat) : ({ x with state := .running job (moved + 1) } : Lane).Ok := by
  obtain ⟨hadm, hlt⟩ := h.currentAdmissible job moved hrun
  refine ⟨h.queueShort, h.recordsShort, nofun, nofun, h.queueAdmissible, ?_⟩
  rintro _ _ ⟨⟩
  exact ⟨hadm, by omega⟩

theorem Lane.Ok.afterReceive {x : Lane} (h : x.Ok) {job : Job} {moved : Nat} (hrun : x.state = .running job moved)
    (e : RxEntry) : (x.afterReceive job moved e).Ok := by
  unfold Lane.afterReceive
  split
  · exact h.endJob ..
  · next hnone =>
    refine h.goesOn hrun fun hend => ?_
    unfold receiveEnds at hnone
    split_ifs at hnone

theorem Lane.Ok.afterTransmit {x : Lane} (h : x.Ok) {job : Job} {moved : Nat} (hrun : x.state = .running job moved) :
    (x.afterTransmit job moved).Ok := by
  unfold Lane.afterTransmit
  split
  · exact h.endJob ..
  · next hmore => exact h.goesOn hrun hmore

theorem Lane.Ok.abort {x : Lane} (h : x.Ok) : x.abort.Ok := by
  unfold Lane.abort
  split
  · exact h
  · exact Lane.ok_placeRecord (x := x.discardQueue) (Nat.zero_le _) h.recordsShort (fun _ hj => absurd hj List.not_mem_nil) _ _
  · exact ⟨by simp [Lane.discardQueue], h.recordsShort, fun _ => rfl, nofun, by simp [Lane.discardQueue], nofun⟩
  · next r o hw =>
    exact ⟨by simp [Lane.discardQueue], h.recordsShort, nofun, fun _ _ _ => h.waitFull r o hw, by simp [Lane.discardQueue],
      nofun⟩

theorem Lane.Ok.resume {x : Lane} (h : x.Ok) : x.resume.Ok := by
  unfold Lane.resume
  split
  · exact Lane.ok_startNext h.queueShort h.recordsShort h.queueAdmissible
  · exact h

theorem Lane.Ok.command {x : Lane} (h : x.Ok) (c : BitVec 2) : (x.command c).Ok := by
  unfold Lane.command
  split_ifs
  · exact h.resume
  · exact h.abort
  · exact h

theorem Lane.Ok.takeRecord {x : Lane} (h : x.Ok) : x.takeRecord.Ok := by
  have hr := h.recordsShort
  unfold Lane.takeRecord
  split
  · exact h
  · next r rest hcons =>
    rw [hcons] at hr
    simp only [List.length_cons] at hr
    split
    · exact ⟨h.queueShort, by simpa using hr, nofun, nofun, h.queueAdmissible, nofun⟩
    · exact Lane.ok_startNext h.queueShort (by simpa using hr) h.queueAdmissible
    · next hhalt hcontinue =>
      refine ⟨h.queueShort, Nat.le_of_succ_le hr, h.idleEmpty, ?_, h.queueAdmissible, h.currentAdmissible⟩
      rintro p (_ | _) hw
      · exact absurd hw (hhalt p)
      · exact absurd hw (hcontinue p)

/-- A submission that passes its value check copies an admissible job (R120). -/
theorem admissible_of_not_submitBad {n : LaneId} {a : Assembly} (h : submitBad n a = false) : a.job.admissible := by
  have hgood : ¬ submitBad n a = true := by simp [h]
  rw [submitBad_iff, not_or, not_or] at hgood
  obtain ⟨hlen, hfits, -⟩ := hgood
  refine ⟨?_, Nat.le_of_not_lt hfits⟩
  exact Nat.pos_of_ne_zero fun hz => hlen (BitVec.eq_of_toNat_eq hz)

theorem Lane.Ok.submit {x : Lane} (h : x.Ok) (hroom : x.queue.length < Config.laneDepth) (hjob : x.asm.job.admissible) :
    x.submit.Ok := by
  by_cases hidle : x.state = .idle
  · rw [Lane.submit_of_idle hidle]
    refine ⟨h.queueShort, h.recordsShort, nofun, nofun, h.queueAdmissible, ?_⟩
    rintro _ _ ⟨⟩
    exact ⟨hjob, hjob.1⟩
  · rw [Lane.submit_of_busy hidle]
    refine ⟨by simpa using hroom, h.recordsShort, fun hi => absurd hi hidle, h.waitFull, ?_, h.currentAdmissible⟩
    intro j hj
    rcases List.mem_append.1 hj with hj | hj
    · exact h.queueAdmissible j hj
    · rw [List.mem_singleton.1 hj]; exact hjob

/-- The lane's job, record and queue are what R118 speaks of: its assembly and its discarded count may be anything. -/
theorem Lane.Ok.of_same {x : Lane} (h : x.Ok) (a : Assembly) (d : Byte) : ({ x with asm := a, discarded := d } : Lane).Ok :=
  ⟨h.queueShort, h.recordsShort, h.idleEmpty, h.waitFull, h.queueAdmissible, h.currentAdmissible⟩

/-- A current job stays within staging memory (R116, R120). -/
theorem Lane.Ok.address_lt {x : Lane} (h : x.Ok) {job : Job} {moved : Nat} (hrun : x.state = .running job moved) :
    job.address moved < Config.stagingSize := by
  obtain ⟨⟨-, hfits⟩, hlt⟩ := h.currentAdmissible job moved hrun
  unfold Job.address
  omega

/-! ### A timer (R133) -/

/-- The bounds of R133 of one timer. -/
def Timer.Ok (x : Timer) : Prop := x.limit ≠ 0 ∧ (x.state = .running → x.count < x.limit)

theorem timerInv_iff (s : State) : TimerInv s ↔ s.tick.length ≠ 0 ∧ ∀ n, (s.timer n).Ok := Iff.rfl

theorem Timer.ok_powerOn : Timer.powerOn.Ok := ⟨by decide, nofun⟩

theorem Timer.Ok.command {x : Timer} (h : x.Ok) (c : BitVec 2) : (x.command c).Ok := by
  obtain ⟨hlimit, hrun⟩ := h
  unfold Timer.command
  split_ifs
  · refine ⟨hlimit, fun _ => ?_⟩
    show 0 < x.limit
    bv_omega
  · exact ⟨hlimit, nofun⟩
  · exact ⟨hlimit, hrun⟩
  · exact ⟨hlimit, hrun⟩

/-- A RUNNING timer that does not reach its limit counts. -/
theorem Timer.Ok.counted {x : Timer} (h : x.Ok) (hmore : x.count + 1 ≠ x.limit) :
    ({ x with count := x.count + 1 } : Timer).Ok := by
  obtain ⟨hlimit, hrun⟩ := h
  refine ⟨hlimit, fun hs => ?_⟩
  have hlt := hrun hs
  show x.count + 1 < x.limit
  bv_omega

/-- What an expiry leaves (R138). -/
theorem Timer.Ok.finished {x : Timer} (h : x.Ok) :
    (if x.periodic then { x with mark := true, count := 0 }
      else { x with mark := true, count := x.limit, state := .expired } : Timer).Ok := by
  obtain ⟨hlimit, -⟩ := h
  split
  · refine ⟨hlimit, fun _ => ?_⟩
    show 0 < x.limit
    bv_omega
  · exact ⟨hlimit, nofun⟩

end Sys2Proof.Machine
end


section
/-! PROOFS. Everything a step can do, said once: a step that is no reset is a run of changes, each of one part of the
state by one operation of the model, with what that operation needs. What a step keeps is then shown change by change. -/

namespace Sys2Proof

/-! ### The commands that reach a setting -/

/-- HOLD of this target (R75). -/
def Instr.changesHold (c : Instr) (k : TargetId) : Prop := ∃ m arg data, c = .hold m arg data ∧ arg.toNat % 256 = k.val

/-- The commands that may change a line's owner (R98). -/
def Instr.changesOwner (c : Instr) (l : LineId) : Prop :=
  (∃ m raw, c = .receiverCompletion m l raw) ∨ (∃ m arg data, c = .seizeLine m arg data) ∨
    (∃ m arg data, c = .yieldLine m arg data) ∨
    ∃ priv num data, c.access = some (true, priv, num, data) ∧
      (num.toNat = 256 * l.unit + 0x0F ∨ (num.toNat = 256 * l.unit + 0x10 ∧ priv = true))

/-- The commands that may change a line's seize lock (R100). -/
def Instr.changesLock (c : Instr) (l : LineId) : Prop :=
  ∃ num data, c.access = some (true, true, num, data) ∧
    (num.toNat = 256 * l.unit + 0x10 ∨ num.toNat = 256 * l.unit + 0x11)

/-- The commands that may change staging memory (R116). -/
def Instr.changesStaging (c : Instr) : Prop :=
  (∃ m l, c = .receiveMove m l) ∨
    ∃ priv num data, c.access = some (true, priv, num, data) ∧ 0x0A00 ≤ num.toNat ∧ num.toNat < 0x0E00

/-- A host read of TGT_TAKE of this target (R64). -/
def Instr.changesTakes (c : Instr) (k : TargetId) : Prop :=
  ∃ priv num data, c.access = some (false, priv, num, data) ∧ num.toNat = 0x0200 + 16 * k.val

/-- SNAPSHOT (R35). -/
def Instr.takesSnapshot (c : Instr) : Prop := ∃ m, c = .snapshot m 0

/-- ABORTED_FRAME (R24). -/
def Instr.countsAborts (c : Instr) : Prop := ∃ m, c = .abortedFrame m

/-- CLEAR_ALL from either port (R156). -/
def Instr.clears (c : Instr) : Prop :=
  (∃ m arg data, c = .clearAll m arg data) ∨ ∃ data, c.access = some (true, true, 0x0005, data)

end Sys2Proof

namespace Sys2Proof.Machine

open Sys2Proof

/-! ### One change -/

/-- What a step of the command `c` may do to one part of the state. -/
inductive Change (c : Instr) (s : State) : State → Prop where
  | clock (now : Nat) (pins : Pins) (sched : Sched) (raised : List SourceId) (xr : BitVec 16) (rsc : RestartUnit) :
      Change c s { s with now := now, pins := pins, sched := sched, raised := raised, xrSample := xr, rsc := rsc }
  | host (h : HostPort) (hok : s.host.Ok → h.Ok) : Change c s { s with host := h }
  | service (v : ServicePort) (hsnap : v.snap = s.svc.snap ∨ c.takesSnapshot)
      (habort : v.abortCount = s.svc.abortCount ∨ c.countsAborts) : Change c s { s with svc := v }
  | line (l : LineId) (x : Line) (hok : (s.line l).Ok → x.Ok) (howner : x.owner = (s.line l).owner ∨ c.changesOwner l)
      (hlock : x.lock = (s.line l).lock ∨ c.changesLock l) : Change c s (s.setLine l x)
  | lane (n : LaneId) (x : Lane) (hok : (s.lane n).Ok → x.Ok) : Change c s (s.setLane n x)
  | timer (n : TimerId) (x : Timer) (hok : (s.timer n).Ok → x.Ok) : Change c s (s.setTimer n x)
  | tick (x : TickBase) (h : x.length ≠ 0) : Change c s { s with tick := x }
  | staging (mem : List Host.Cell) (hwf : Memory.wf s.staging = true → Memory.wf mem = true) (hc : c.changesStaging) :
      Change c s { s with staging := mem }
  | target (k : TargetId) (x : Target) (hstack : x.stack = (s.tgt k).stack) (hurgent : x.urgent = (s.tgt k).urgent)
      (htakes : x.takes = (s.tgt k).takes) (hhold : x.hold = (s.tgt k).hold ∨ c.changesHold k) :
      Change c s (s.setTgt k x)
  | source (i : SourceId) (x : Source) (hentry : x.entry = (s.src i).entry) (hstate : x.state = (s.src i).state) :
      Change c s (s.setSrc i x)
  | entry (i : SourceId) (e : Entry) (h : (s.src i).acceptsEntry e = true) :
      Change c s (s.setSrc i ((s.src i).writeEntry e))
  | restart (k : TargetId) (x : Restart) (hrun : (s.restart k).state = .run → x.state = .run) :
      Change c s (s.setRestart k x)
  | restartEntry (k : TargetId) (st : RunState) (cause : Cause) : Change c s (enterRestart s k st cause)
  | take (k : TargetId) (i : SourceId) (hoffer : s.offer k = some i) (hc : c.changesTakes k) :
      Change c s (takeSource s k i)
  | takeUrgent (k : TargetId) : Change c s (takeUrgent s k)
  | complete (k : TargetId) (i : SourceId) (h : inStack (s.tgt k).stack i = true) : Change c s (completeSource s k i)
  | clearAll (h : c.clears) : Change c s (clearAll s)
  | endOfStep : Change c s (endOfStep s)

/-- A run of changes. -/
def Reach (c : Instr) : State → State → Prop := Relation.ReflTransGen (Change c)

variable {c : Instr} {s t u : State}

theorem Reach.refl (s : State) : Reach c s s := Relation.ReflTransGen.refl

theorem Change.reach (h : Change c s t) : Reach c s t := .single h

theorem Reach.trans (h : Reach c s t) (k : Reach c t u) : Reach c s u := Relation.ReflTransGen.trans h k

theorem Reach.change (h : Reach c s t) (k : Change c t u) : Reach c s u := Relation.ReflTransGen.tail h k

/-- The clock, the pins, the edges raised so far and the time bases may move at any point. -/
theorem Reach.clock (h : Reach c s u)
    (ht : t = { u with
      now := t.now, pins := t.pins, sched := t.sched, raised := t.raised, xrSample := t.xrSample, rsc := t.rsc }) :
    Reach c s t :=
  h.change (ht ▸ .clock t.now t.pins t.sched t.raised t.xrSample t.rsc)

/-! ### What a step finds -/

theorem look_reaches (s : State) : Reach c s s.look :=
  Change.reach (.service s.look.svc (.inl (s.look_snap)) (.inl (s.look_abortCount)))

theorem arrive_reaches (s : State) (m : Moment) : Reach c s (s.arrive m) := by
  refine .head (.clock (s.now + m.gap) m.pins (if m.gap = 0 then s.sched else s.sched.newInstant) [] s.xrSample s.rsc) ?_
  refine .head (.host (s.host.seeReq m.pins.hreq) fun hok => seeReq_eq s.host _ ▸ hok.reqSeen _) ?_
  exact Change.reach (.service (s.arrive m).svc (.inl (s.arrive_snap m)) (.inl (s.arrive_abortCount m)))

theorem enter_reaches (s : State) (m : Moment) : Reach c s (s.enter m) := (arrive_reaches s m).trans (look_reaches _)

theorem advanceTo_reaches (s : State) (n : Nat) : Reach c s (s.advanceTo n) := by
  unfold State.advanceTo
  split
  · exact Change.reach (.clock n s.pins _ s.raised s.xrSample s.rsc)
  · exact .refl s

theorem takeStep_reaches {m : Moment} {action : State → State} (h : Reach c (s.enter m) (action (s.enter m))) :
    Reach c s (takeStep m action s) := by
  unfold takeStep
  split
  · exact Change.reach (.clock s.now m.pins s.sched s.raised s.xrSample s.rsc)
  · exact ((enter_reaches s m).trans h).change .endOfStep

theorem takeEarlyStep_reaches {m : Moment} {action : State → State} (h : Reach c (s.arrive m) (action (s.arrive m))) :
    Reach c s (takeEarlyStep m action s) := by
  unfold takeEarlyStep
  split
  · exact Change.reach (.clock s.now m.pins s.sched s.raised s.xrSample s.rsc)
  · exact ((arrive_reaches s m).trans h).change .endOfStep

/-! ### Edges, alert flags and doorbells -/

theorem raise_reaches (s : State) (i : SourceId) : Reach c s (s.raise i) :=
  Change.reach (.clock s.now s.pins s.sched (s.raised ++ [i]) s.xrSample s.rsc)

theorem setSticky_reaches (s : State) (bit : Nat) : Reach c s (s.setSticky bit) :=
  Change.reach (.service _ (.inl rfl) (.inl rfl))

theorem setBell_reaches (s : State) (k : TargetId) (x : Doorbell) : Reach c s (s.setBell k x) :=
  Change.reach (.service _ (.inl rfl) (.inl rfl))

/-! ### Completions of the host port -/

theorem hostDone_reaches (s : State) (w : Word) : Reach c s (s.hostDone w) :=
  Change.reach (.host _ fun _ => HostPort.ok_of_completion (done := true) rfl (by simp [HostPort.done])
    (by simp [HostPort.done]))

theorem driveDone_reaches (s : State) (w : Word) : Reach c s (s.driveDone w) := driveDone_eq s w ▸ hostDone_reaches s w

theorem refuseHost_reaches (s : State) (num : ItemNumber) (write priv : Bool) (r : Reason) :
    Reach c s (refuseHost s num write priv r) := by
  rw [refuseHost_eq]
  exact Change.reach (.host _ fun _ => HostPort.ok_of_completion (done := false) rfl (by simp [HostPort.refused])
    (by simp [HostPort.refused]))

theorem refuseHeld_reaches (s : State) (r : Reason) : Reach c s (s.refuseHeld r) := by
  rw [refuseHeld_eq]
  exact Change.reach (.host _ fun _ => HostPort.ok_of_completion (done := false) rfl (by simp) (by simp))

/-! ### Lines -/

/-- A line replaced by one that keeps its owner and its lock. -/
theorem setLine_reaches (s : State) (l : LineId) {x : Line} (hok : (s.line l).Ok → x.Ok)
    (howner : x.owner = (s.line l).owner) (hlock : x.lock = (s.line l).lock) : Reach c s (s.setLine l x) :=
  Change.reach (.line l x hok (.inl howner) (.inl hlock))

theorem changeOwner_reaches {l : LineId} (hc : c.changesOwner l) (s : State) (o : Owner) :
    Reach c s (changeOwner s l o) :=
  (Change.reach (.line l { s.line l with owner := o }
    (fun h => ⟨h.queuesShort, h.stoppedIdle, h.drainingBusy, h.receiverOff, h.thresholds, h.distinct⟩) (.inr hc)
    (.inl rfl))).trans (raise_reaches _ _)

theorem denySeize_reaches (s : State) (l : LineId) : Reach c s (denySeize s l) := by
  unfold denySeize
  refine Reach.trans ?_ (setSticky_reaches _ _)
  exact setLine_reaches s l
    (fun h => ⟨h.queuesShort, h.stoppedIdle, h.drainingBusy, h.receiverOff, h.thresholds, h.distinct⟩) rfl rfl

theorem seize_reaches {l : LineId} (hc : c.changesOwner l) (s : State) : Reach c s (seize s l) := by
  unfold seize
  split
  · exact .refl s
  · split
    · exact changeOwner_reaches hc s .service
    · exact denySeize_reaches s l

theorem yieldLine_reaches {l : LineId} (hc : c.changesOwner l) (s : State) : Reach c s (yieldLine s l) := by
  unfold yieldLine
  split
  · exact changeOwner_reaches hc s .program
  · exact .refl s

theorem releaseLine_reaches {l : LineId} (hc : c.changesOwner l) (s : State) : Reach c s (releaseLine s l) := by
  unfold releaseLine
  split
  · exact changeOwner_reaches hc s .service
  · exact .refl s

theorem setLock_reaches {l : LineId} (hc : c.changesLock l) (s : State) (lock : Bool) :
    Reach c s (s.setLine l { s.line l with lock := lock }) :=
  Change.reach (.line l _ (fun h => ⟨h.queuesShort, h.stoppedIdle, h.drainingBusy, h.receiverOff, h.thresholds, h.distinct⟩)
    (.inl rfl) (.inr hc))

theorem reclaimLine_reaches {l : LineId} (hc : c.changesOwner l) (hk : c.changesLock l) (s : State) :
    Reach c s (reclaimLine s l) := by
  unfold reclaimLine
  refine Reach.trans ?_ (setLock_reaches hk _ true)
  split
  · exact (changeOwner_reaches hc s .program).trans (setSticky_reaches _ _)
  · exact .refl s

theorem deliverEntry_reaches {l : LineId} (hc : c.changesOwner l) (s : State) (e : RxEntry) :
    Reach c s (deliverEntry s l e) := by
  unfold deliverEntry
  split
  · exact seize_reaches hc s
  · exact yieldLine_reaches hc s
  · exact (raise_reaches _ _).trans (setSticky_reaches _ _)
  · exact setLine_reaches s l (fun h => h.storeEntry e) (by simp) (by simp)

theorem completeReceive_reaches {l : LineId} (hc : c.changesOwner l) (s : State) (given : Option RawFrame) :
    Reach c s (completeReceive s l given) := by
  unfold completeReceive
  dsimp only
  split
  · next hrun =>
    split
    · exact .refl s
    · next raw _ =>
      refine Reach.trans ?_ (deliverEntry_reaches hc _ _)
      exact setLine_reaches s l (fun h => h.withReceiver hrun (phaseAfter_ne_off _)) rfl rfl
  · exact .refl s

/-- A start takes the head of the owner's transmit queue (R90). -/
theorem Line.Ok.startsChar {x : Line} (h : x.Ok) (hdue : x.startDue = true) {v : Byte} {rest : List Byte}
    (htx : (x.chan x.owner).tx = v :: rest) (ch : TxChar) :
    ({ x.setChan x.owner { x.chan x.owner with tx := rest } with tx := some ch } : Line).Ok := by
  simp only [Line.startDue, Bool.and_eq_true, decide_eq_true_eq] at hdue
  obtain ⟨⟨hrun, -⟩, -⟩ := hdue
  have hlen : rest.length ≤ Config.queueDepth := by
    have := h.chan_tx x.owner
    rw [htx] at this
    exact Nat.le_of_succ_le this
  exact (h.setChan x.owner (c := { x.chan x.owner with tx := rest }) (h.chan_rx x.owner) hlen).withChar (by simpa using hrun) ch

theorem startTransmit_reaches (s : State) (l : LineId) : Reach c s (startTransmit s l) := by
  unfold startTransmit
  dsimp only
  split
  · next hdue =>
    split
    · exact .refl s
    · next v rest htx =>
      refine Reach.trans (Reach.clock (.refl s) rfl) (setLine_reaches _ l ?_ ?_ ?_)
      · exact fun h => Line.Ok.startsChar (x := s.line l) h hdue htx _
      · exact Line.setChan_owner ..
      · exact Line.setChan_lock ..
  · exact .refl s

@[simp] theorem State.line_advanceTo (s : State) (n : Nat) (l : LineId) : (s.advanceTo n).line l = s.line l :=
  State.line_congr (s.advanceTo_lineA n) (s.advanceTo_lineB n) l

theorem completeTransmit_reaches (s : State) (l : LineId) : Reach c s (completeTransmit s l) := by
  unfold completeTransmit
  dsimp only
  split
  · exact .refl s
  · next ch _ =>
    have hline : ∀ x : Sched, ({ s.advanceTo ((s.line l).txEnd ch) with sched := x } : State).line l = s.line l :=
      fun _ => s.line_advanceTo _ l
    refine Reach.trans (Reach.clock (advanceTo_reaches s _) rfl) (setLine_reaches _ l ?_ ?_ ?_)
    · rw [hline]; exact fun h => h.withoutChar
    · rw [hline]
    · rw [hline]

theorem sampleReceiver_reaches (s : State) (l : LineId) : Reach c s (sampleReceiver s l) := by
  unfold sampleReceiver
  dsimp only
  split
  · next hrun =>
    refine (advanceTo_reaches s _).trans (setLine_reaches _ l ?_ ?_ ?_)
    · rw [State.line_advanceTo]
      exact fun h => h.withReceiver hrun (RxPhase.sample_ne_off (fun hoff => h.receiverOff.1 hoff hrun) _ _)
    · rw [State.line_advanceTo]
    · rw [State.line_advanceTo]
  · exact .refl s

theorem popEntry_reaches (s : State) (l : LineId) (o : Owner) : Reach c s (popEntry s l o) :=
  setLine_reaches s l
    (fun h => h.setChan o (by simpa using Nat.le_succ_of_le (h.chan_rx o)) (h.chan_tx o)) (by simp) (by simp)

theorem pushChar_reaches {l : LineId} {o : Owner} (hroom : ((s.line l).chan o).tx.length < Config.queueDepth)
    (v : Byte) : Reach c s (pushChar s l o v) :=
  setLine_reaches s l (fun h => h.setChan o (h.chan_rx o) (by simpa using hroom)) (by simp) (by simp)

theorem txRoom_of_txRefusal {l : LineId} (h : s.txRefusal l = none) :
    ((s.line l).chan .program).tx.length < Config.queueDepth := by
  unfold State.txRefusal at h
  split_ifs at h with hbusy hfull
  exact Nat.lt_of_not_le hfull

/-! ### Lanes -/

theorem abortLane_reaches (s : State) (n : LaneId) : Reach c s (s.setLane n (s.lane n).abort) :=
  Change.reach (.lane n _ fun h => h.abort)

theorem clearHeldOn_reaches (s : State) (l : LineId) : Reach c s (clearHeldOn s l) := by
  unfold clearHeldOn
  split
  · exact .refl s
  · split
    · exact refuseHeld_reaches s _
    · exact .refl s

theorem clearLine_reaches (s : State) (l : LineId) : Reach c s (clearLine s l) :=
  (((setLine_reaches s l (fun h => h.cleared s.now) rfl rfl).trans (clearHeldOn_reaches _ l)).trans
    (abortLane_reaches _ _)).trans (abortLane_reaches _ _)

theorem receiveMove_reaches {l : LineId} (hc : c.changesStaging) (hf : receiveMoveFaults s l = false) :
    Reach c s (receiveMove s l) := by
  unfold receiveMove
  unfold receiveMoveFaults at hf
  dsimp only
  split
  · next job moved e rest hrun hrx =>
    rw [hrun, hrx] at hf
    have hchan : (s.line l).Ok → ({ s.line l with prog := { (s.line l).prog with rx := rest } } : Line).Ok := by
      intro h
      have hlen : rest.length ≤ Config.queueDepth := by
        have := h.chan_rx .program
        exact Nat.le_of_succ_le (by simpa [Line.chan, hrx] using this)
      exact h.setChan .program hlen (h.chan_tx .program)
    refine Reach.trans ?_ (Change.reach (.lane (rxLane l) _ fun h => ?_))
    · refine Reach.clock (u := { s.setLine l _ with
        staging := if e.brk then s.staging else writeByte s.staging (job.address moved) e.value }) ?_ rfl
      refine (setLine_reaches s l hchan rfl rfl).change (.staging _ (fun hwf => ?_) hc)
      have hwf : Memory.wf s.staging = true := by simpa using hwf
      split
      · exact hwf
      · next hb => exact wf_writeByte hwf (by simpa [hb] using hf) _
    · exact Lane.Ok.afterReceive (x := s.lane (rxLane l)) (by cases l <;> exact h) hrun e
  · exact .refl s

theorem transmitMove_reaches (s : State) (l : LineId) : Reach c s (transmitMove s l) := by
  unfold transmitMove
  dsimp only
  split
  · next job moved hrun =>
    split
    · next hroom =>
      have happended : Reach c s (s.setLine l { s.line l with
          prog := { (s.line l).prog with tx := (s.line l).prog.tx ++ [readByte s.staging (job.address moved)] } }) :=
        setLine_reaches s l (fun h => h.setChan .program (h.chan_rx .program)
          (c := { (s.line l).prog with tx := (s.line l).prog.tx ++ [readByte s.staging (job.address moved)] })
          (by simpa using hroom)) rfl rfl
      refine Reach.trans (happended.clock rfl) (Change.reach (.lane (txLane l) _ fun h => ?_))
      exact Lane.Ok.afterTransmit (x := s.lane (txLane l)) (by cases l <;> exact h) hrun
    · exact .refl s
  · exact .refl s

/-! ### The held request -/

theorem twinEffect_reaches {l : LineId} {write : Bool} (h : s.twinRefusal l write = none) (data : Word) :
    Reach c s (twinEffect s l write data) := by
  cases write with
  | false => exact popEntry_reaches s l .program
  | true => exact pushChar_reaches (txRoom_of_txRefusal h) _

theorem reexamine_reaches (s : State) (h : Held) (expired : Bool) : Reach c s (reexamine s h expired) := by
  unfold reexamine
  split
  · exact refuseHeld_reaches s _
  · split_ifs with htwin hexp
    · exact (twinEffect_reaches (Option.isNone_iff_eq_none.1 htwin) _).trans (driveDone_reaches _ _)
    · exact refuseHeld_reaches s _
    · exact .refl s

theorem completeHeld_reaches (s : State) : Reach c s (completeHeld s) := by
  unfold completeHeld
  split
  · exact .refl s
  · exact reexamine_reaches s _ _

theorem expireHeld_reaches (s : State) : Reach c s (expireHeld s) := by
  unfold expireHeld
  split
  · exact .refl s
  · exact (advanceTo_reaches s _).trans (reexamine_reaches _ _ _)

/-! ### Restarts -/

theorem mergeRequest_reaches (s : State) (k : TargetId) : Reach c s (mergeRequest s k) :=
  Change.reach (.restart k _ id)

theorem requestPulse_reaches (s : State) (k : TargetId) (cause : Cause) : Reach c s (requestPulse s k cause) := by
  unfold requestPulse
  split
  · exact Change.reach (.restartEntry k _ cause)
  · exact mergeRequest_reaches s k

theorem requestHold_reaches (s : State) (k : TargetId) (cause : Cause) : Reach c s (requestHold s k cause) := by
  unfold requestHold
  split
  · exact Change.reach (.restartEntry k _ cause)
  · next ends hp => exact Change.reach (.restart k _ fun hrun => nomatch hp.symm.trans hrun)
  · exact mergeRequest_reaches s k

theorem requestRelease_reaches (s : State) (k : TargetId) : Reach c s (requestRelease s k) := by
  unfold requestRelease
  split
  · exact Change.reach (.restart k _ fun _ => rfl)
  · exact .refl s

theorem endPulse_reaches (s : State) (k : TargetId) : Reach c s (endPulse s k) := by
  unfold endPulse
  split
  · exact (advanceTo_reaches s _).trans (Change.reach (.restart k _ fun _ => rfl))
  · exact .refl s

theorem pressTarget_reaches (s : State) (k : TargetId) : Reach c s (pressTarget s k) := by
  unfold pressTarget
  split
  · exact requestPulse_reaches s k _
  · exact .refl s

theorem pressButton_reaches (s : State) : Reach c s (pressButton s) :=
  (((pressTarget_reaches s 0).trans (pressTarget_reaches _ 1)).trans (pressTarget_reaches _ 2)).trans
    (pressTarget_reaches _ 3)

theorem sampleButton_reaches (s : State) : Reach c s (sampleButton s) := by
  unfold sampleButton
  dsimp only
  split
  · refine Reach.trans ?_ (pressButton_reaches _)
    exact Reach.clock (advanceTo_reaches s _) rfl
  · exact Reach.clock (advanceTo_reaches s _) rfl

/-! ### Time bases -/

theorem raiseXr_reaches (old new : BitVec 16) (l : List SourceId) (s : State) :
    Reach c s (l.foldl (raiseXr old new) s) := by
  induction l generalizing s with
  | nil => exact .refl s
  | cons i l ih =>
    refine Reach.trans ?_ (ih _)
    unfold raiseXr
    split
    · exact raise_reaches s i
    · exact .refl s

theorem sampleXr_reaches (s : State) : Reach c s (sampleXr s) :=
  Reach.trans (Reach.clock (advanceTo_reaches s _) rfl) (raiseXr_reaches _ _ _ _)

theorem loseExpiry_reaches (s : State) (n : TimerId) : Reach c s (loseExpiry s n) := by
  unfold loseExpiry
  split
  · refine .head (.timer n { s.timer n with lost := satInc (s.timer n).lost } id) ?_
    split
    · exact Reach.refl _
    · exact (requestPulse_reaches _ _ _).trans (setSticky_reaches _ _)
  · exact .refl s

theorem expireTimer_reaches (s : State) (n : TimerId) : Reach c s (expireTimer s n) :=
  ((loseExpiry_reaches s n).trans (Change.reach (.timer n _ fun h => h.finished))).trans (raise_reaches _ _)

theorem visitTimer_reaches (s : State) (n : TimerId) : Reach c s (visitTimer s n) := by
  unfold visitTimer
  dsimp only
  split
  · next hrun =>
    split
    · exact expireTimer_reaches s n
    · next hmore =>
      simp only [Timer.expiresNext, hrun, decide_true, Bool.true_and, decide_eq_true_eq] at hmore
      exact Change.reach (.timer n _ fun h => h.counted hmore)
  · exact .refl s

theorem takeTick_reaches (s : State) : Reach c s (takeTick s) := by
  unfold takeTick visitTimers
  refine Reach.trans ?_ (visitTimer_reaches _ 3)
  refine Reach.trans ?_ (visitTimer_reaches _ 2)
  refine Reach.trans ?_ (visitTimer_reaches _ 1)
  refine Reach.trans ?_ (visitTimer_reaches _ 0)
  exact Reach.clock (advanceTo_reaches s _) rfl

theorem takeExpiry_reaches (s : State) (n : TimerId) : Reach c s (takeExpiry s n) := by
  unfold takeExpiry
  split
  · exact (advanceTo_reaches s _).trans (expireTimer_reaches _ _)
  · exact .refl s

end Sys2Proof.Machine
end


section
/-! PROOFS. Every step of a command other than a reset is a run of changes: the transactions of the host port, the commands
of service frames, and the hub's own events. -/

namespace Sys2Proof.Machine

open Sys2Proof

variable {c : Instr} {s t : State}

/-! ### Accepted writes -/

/-- The command may write this item: the few items whose writes reach a setting of their own commands. -/
def mayWrite (c : Instr) : Item → Prop
  | .hub .clearAll => c.clears
  | .line l .release => c.changesOwner l
  | .line l .reclaim => c.changesOwner l ∧ c.changesLock l
  | .line l .unlock => c.changesLock l
  | .staging _ => c.changesStaging
  | _ => True

theorem writeHub_reaches {i : HubItem} (hc : mayWrite c (.hub i)) (s : State) (w : Word) :
    Reach c s (writeHub s i w) := by
  cases i with
  | waitLimit | faultAck | flowCount => exact Change.reach (.host _ id)
  | clearAll => exact Change.reach (.clearAll hc)
  | ident | fault => exact .refl s

theorem completeSource_reaches {k : TargetId} {w : Word} (h : s.doneRefusal k w = none) :
    Reach c s (writeTarget s k .done w) := by
  unfold State.doneRefusal at h
  unfold writeTarget
  dsimp only
  split
  · next i hi =>
    simp only [hi] at h
    split_ifs at h with hrun hin
    exact Change.reach (.complete k i hin)
  · exact .refl s

theorem writeTarget_reaches {k : TargetId} {i : TargetItem} {w : Word} (href : s.writeRefusal (.tgt k i) w = none) :
    Reach c s (writeTarget s k i w) := by
  cases i with
  | done => exact completeSource_reaches href
  | floor | vbase | vstride | urgentStatus => exact Change.reach (.target k _ rfl rfl rfl (.inl rfl))
  | _ => exact .refl s

theorem lineCommand_reaches (s : State) (l : LineId) (v : BitVec 2) : Reach c s (lineCommand s l v) := by
  unfold lineCommand
  split_ifs
  · exact setLine_reaches s l (fun h => h.started s.now) (by simp) (by simp)
  · exact setLine_reaches s l (fun h => h.stopped) (by simp) (by simp)
  · exact clearLine_reaches s l
  · exact .refl s

/-- Settings of a line that no queue, state or owner depends on. -/
theorem Line.Ok.of_settings {x y : Line} (h : x.Ok) (hp : y.prog.rx = x.prog.rx ∧ y.prog.tx = x.prog.tx)
    (hs : y.serv.rx = x.serv.rx ∧ y.serv.tx = x.serv.tx) (hstate : y.state = x.state) (htx : y.tx = x.tx)
    (hrx : y.rx = x.rx) (hthresh : badThreshold y.rxThresh = false ∧ badThreshold y.txThresh = false)
    (hctl : y.ctl.clash = false) : y.Ok := by
  obtain ⟨hpr, hpt⟩ := hp
  obtain ⟨hsr, hst⟩ := hs
  exact h.of_same (by rw [hpr, hpt, hsr, hst]; exact h.queuesShort) hstate htx (by rw [hrx]) hthresh hctl

theorem writeLine_reaches {l : LineId} {i : LineItem} {w : Word} (hbad : s.badValue (.line l i) w = false)
    (href : s.writeRefusal (.line l i) w = none) (hc : mayWrite c (.line l i)) : Reach c s (writeLine s l i w) := by
  cases i with
  | start => exact setLine_reaches s l (fun h => h.started s.now) (by simp) (by simp)
  | stop => exact setLine_reaches s l (fun h => h.stopped) (by simp) (by simp)
  | clear => exact clearLine_reaches s l
  | control => exact lineCommand_reaches s l _
  | tx => exact pushChar_reaches (txRoom_of_txRefusal href) _
  | thresh =>
    have hgood : badThreshold (field w 0 6) = false ∧ badThreshold (field w 8 6) = false := by
      simpa [State.badValue] using hbad
    exact setLine_reaches s l (fun h => h.of_settings ⟨rfl, rfl⟩ ⟨rfl, rfl⟩ rfl rfl rfl hgood h.distinct) rfl rfl
  | ctlchars =>
    exact setLine_reaches s l (fun h => h.of_settings ⟨rfl, rfl⟩ ⟨rfl, rfl⟩ rfl rfl rfl h.thresholds hbad) rfl rfl
  | format | perr | serr | alarmMask | pecho | secho =>
    exact setLine_reaches s l (fun h => h.of_settings ⟨rfl, rfl⟩ ⟨rfl, rfl⟩ rfl rfl rfl h.thresholds h.distinct) rfl rfl
  | release => exact releaseLine_reaches hc s
  | reclaim => exact reclaimLine_reaches hc.1 hc.2 s
  | unlock => exact setLock_reaches hc s false
  | status | rx | rxWait | txWait | owner => exact .refl s

theorem writeLane_reaches {n : LaneId} {i : LaneItem} {w : Word} (hbad : s.badValue (.lane n i) w = false)
    (href : s.writeRefusal (.lane n i) w = none) : Reach c s (writeLane s n i w) := by
  cases i with
  | jobPlace | jobMode | discarded => exact Change.reach (.lane n _ fun h => h.of_same _ _)
  | submit =>
    have hroom : (s.lane n).queue.length < Config.laneDepth := by
      by_contra hfull
      rw [show s.writeRefusal (.lane n .submit) w = some .queueFull from if_pos (Nat.le_of_not_lt hfull)] at href
      cases href
    exact Change.reach (.lane n _ fun h => h.submit hroom (admissible_of_not_submitBad hbad))
  | command => exact Change.reach (.lane n _ fun h => h.command _)
  | laneStatus | current | record => exact .refl s

theorem writeTimer_reaches {n : TimerId} {i : TimerItem} {w : Word} (hbad : s.badValue (.timer n i) w = false)
    (href : s.writeRefusal (.timer n i) w = none) : Reach c s (writeTimer s n i w) := by
  cases i with
  | config | status => exact Change.reach (.timer n _ id)
  | limit =>
    have hgood : field w 0 24 ≠ 0 := of_decide_eq_false hbad
    have hidle : (s.timer n).state ≠ .running := by
      intro hrun
      rw [show s.writeRefusal (.timer n .limit) w = some .notIdle from if_pos hrun] at href
      cases href
    exact Change.reach (.timer n _ fun _ => ⟨hgood, fun hrun => absurd hrun hidle⟩)
  | command => exact Change.reach (.timer n _ fun h => h.command _)
  | count => exact .refl s

theorem writeItem_reaches {it : Item} {w : Word} (hbad : s.badValue it w = false) (href : s.writeRefusal it w = none)
    (hc : mayWrite c it) : Reach c s (writeItem s it w) := by
  cases it with
  | hub i => exact writeHub_reaches hc s w
  | srcEntry i =>
    have hacc : (s.src i).acceptsEntry (entryOfWord w) = true := by
      by_contra hno
      rw [show s.writeRefusal (.srcEntry i) w = some .notIdle from if_neg hno] at href
      cases href
    exact Change.reach (.entry i _ hacc)
  | srcStatus i => exact Change.reach (.source i _ rfl rfl)
  | tgt k i => exact writeTarget_reaches href
  | line l i => exact writeLine_reaches hbad href hc
  | lane n i => exact writeLane_reaches hbad href
  | tickLength =>
    have hgood : field w 0 16 ≠ 0 := of_decide_eq_false hbad
    exact (Change.reach (.tick ⟨field w 0 16, s.now⟩ hgood)).clock rfl
  | timer n i => exact writeTimer_reaches hbad href
  | rsc i =>
    cases i with
    | restart => exact requestPulse_reaches s _ _
    | width | buttonMap => exact Reach.clock (.refl s) rfl
    | button | target => exact .refl s
  | snap => exact .refl s
  | alert i =>
    cases i with
    | mask => exact Change.reach (.service _ (.inl rfl) (.inl rfl))
    | flags | doorbellStatus | abortCount => exact .refl s
  | staging k => exact Change.reach (.staging _ (fun h => wf_writeStaging h k.isLt w) hc)

/-! ### Host transactions -/

theorem consume_reaches {it : Item} (hc : ∀ k, it = .tgt k .take → c.changesTakes k) (s : State) :
    Reach c s (consume s it) := by
  unfold consume
  split
  · next k =>
    unfold takeOffer
    split
    · exact .refl s
    · next i hi => exact Change.reach (.take k i hi (hc k rfl))
  · exact Change.reach (.takeUrgent _)
  · exact setBell_reaches s _ _
  · exact popEntry_reaches s _ _
  · exact Change.reach (.lane _ _ fun h => h.takeRecord)
  · exact .refl s

theorem holdRequest_reaches (s : State) (l : LineId) (write : Bool) (data : Word) :
    Reach c s (holdRequest s l write data) :=
  Change.reach (.host _ fun _ => by simp [HostPort.Ok])

theorem waitAccess_reaches (s : State) (num : ItemNumber) (l : LineId) (write priv : Bool) (data : Word) :
    Reach c s (waitAccess s num l write priv data) := by
  unfold waitAccess
  split
  · next htwin => exact (twinEffect_reaches htwin data).trans (driveDone_reaches _ _)
  · split
    · exact refuseHost_reaches ..
    · split
      · exact refuseHost_reaches ..
      · split
        · exact refuseHost_reaches ..
        · exact holdRequest_reaches ..

theorem hostRead_reaches {it : Item} (hc : ∀ k, it = .tgt k .take → c.changesTakes k) (s : State) (num : ItemNumber)
    (priv : Bool) : Reach c s (hostRead s num priv it) := by
  unfold hostRead
  split_ifs
  · exact refuseHost_reaches ..
  · split
    · exact waitAccess_reaches ..
    · split
      · exact refuseHost_reaches ..
      · exact (consume_reaches hc s).trans (driveDone_reaches _ _)

/-- A host write that passes the checks 1 to 4 is one of a writable item, privileged where the item asks it, of a good
value (R160). -/
theorem hostWriteCheck_passed {priv : Bool} {it : Item} {data : Word} (h : s.hostWriteCheck priv it data = none) :
    (s.needsPriv it data = true → priv = true) ∧ s.badValue it data = false := by
  unfold State.hostWriteCheck at h
  split_ifs at h with hnone hread hpriv hbad
  exact ⟨by simpa using hpriv, by simpa using hbad⟩

theorem hostWrite_reaches {it : Item} {priv : Bool} {data : Word} (s : State)
    (hc : (s.needsPriv it data = true → priv = true) → mayWrite c it) (num : ItemNumber) :
    Reach c s (hostWrite s num priv it data) := by
  unfold hostWrite
  split
  · exact refuseHost_reaches ..
  · next hcheck =>
    obtain ⟨hpriv, hbad⟩ := hostWriteCheck_passed hcheck
    split
    · exact waitAccess_reaches ..
    · split
      · exact refuseHost_reaches ..
      · next href => exact (writeItem_reaches hbad href (hc hpriv)).trans (driveDone_reaches _ _)

/-- The item that a write of `c` reaches is one that `c` may write. -/
theorem mayWrite_of_access {priv : Bool} {num : ItemNumber} {data : Word} {it : Item}
    (h : c.access = some (true, priv, num, data)) (hd : decodeItem num = some it)
    (hpriv : s.needsPriv it data = true → priv = true) : mayWrite c it := by
  have hnum := numberNat_of_decodeItem hd
  unfold mayWrite
  split
  · obtain rfl : priv = true := hpriv rfl
    refine .inr ⟨data, ?_⟩
    rw [h, show num = 0x0005 from BitVec.eq_of_toNat_eq hnum.symm]
  · exact .inr (.inr (.inr ⟨priv, num, data, h, .inl hnum.symm⟩))
  · obtain rfl : priv = true := hpriv rfl
    exact ⟨.inr (.inr (.inr ⟨true, num, data, h, .inr ⟨hnum.symm, rfl⟩⟩)), ⟨num, data, h, .inl hnum.symm⟩⟩
  · obtain rfl : priv = true := hpriv rfl
    exact ⟨num, data, h, .inr hnum.symm⟩
  · next k =>
    refine .inr ⟨priv, num, data, h, ?_⟩
    have := k.isLt
    simp only [Item.numberNat] at hnum
    omega
  · trivial

theorem hostAct_reaches {write priv : Bool} {num : ItemNumber} {data : Word}
    (h : c.access = some (write, priv, num, data)) (s : State) :
    Reach c s (hostAct write priv num (decodeItem num) data s) := by
  unfold hostAct
  split
  · exact .refl s
  · split
    · exact refuseHost_reaches ..
    · next it hd =>
      cases write with
      | true => exact hostWrite_reaches s (fun hpriv => mayWrite_of_access h hd hpriv) num
      | false =>
        refine hostRead_reaches (fun k hk => ⟨priv, num, data, h, ?_⟩) s num priv
        rw [← numberNat_of_decodeItem hd, hk]
        rfl

/-! ### Service frames -/

theorem setFrame_reaches (s : State) (f : Frame) : Reach c s (s.setFrame f) :=
  Change.reach (.service _ (.inl rfl) (.inl rfl))

theorem post_reaches (s : State) (r : Reason) (code : Byte) (arg : BitVec 16) : Reach c s (s.post r code arg) := by
  rw [post_eq]
  exact Change.reach (.service _ (.inl rfl) (.inl rfl))

theorem readCommand_reaches {m : Moment} {code : Byte} {arg : BitVec 16} {act : State → Reply}
    (h : ∀ u, Reach c u (act u).state) (s : State) : Reach c s (readCommand m code arg act s) := by
  unfold readCommand
  dsimp only
  split_ifs
  · exact Reach.clock (.refl s) rfl
  · exact ((arrive_reaches s m).trans (look_reaches _)).change .endOfStep
  · refine Reach.trans ?_ (look_reaches _)
    refine Reach.trans ?_ (setFrame_reaches _ _)
    exact ((arrive_reaches s m).trans (h _)).change .endOfStep

theorem writeCommand_reaches {m : Moment} {code : Byte} {arg : BitVec 16} {data : Word} {act : State → Reply}
    (h : ∀ u, Reach c u (act u).state) (s : State) : Reach c s (writeCommand m code arg data act s) := by
  unfold writeCommand
  dsimp only
  split_ifs
  · exact Reach.clock (.refl s) rfl
  · exact ((arrive_reaches s m).trans (look_reaches _)).change .endOfStep
  · refine Reach.trans ?_ (look_reaches _)
    refine Reach.trans ?_ (setFrame_reaches _ _)
    exact (((arrive_reaches s m).trans (h _)).trans (post_reaches _ _ _ _)).change .endOfStep

theorem popCommand_reaches (arg : BitVec 16) (s : State) : Reach c s (popCommand arg s).state := by
  unfold popCommand
  split
  · exact .refl s
  · split_ifs
    · exact .refl s
    · exact popEntry_reaches s _ _

theorem readItem_reaches (arg : BitVec 16) (s : State) : Reach c s (readItem arg s).state := by
  unfold readItem
  split
  · exact .refl s
  · split_ifs <;> exact .refl s

theorem statusCommand_reaches (arg : BitVec 16) (s : State) : Reach c s (statusCommand arg s).state := by
  unfold statusCommand
  split_ifs <;> exact .refl s

theorem snapshotCommand_reaches (m : Moment) (arg : BitVec 16) (s : State) :
    Reach (.snapshot m arg) s (snapshotCommand arg s).state := by
  unfold snapshotCommand
  split_ifs with h
  · exact Change.reach (.service _ (.inr ⟨m, by rw [h]⟩) (.inl rfl))
  · exact .refl s

/-- No item that the service port writes has a state refusal or a setting of its own commands (R23). -/
theorem mayWrite_of_svcAccess {it : Item} (h : svcAccess it = .readWrite) (s : State) (w : Word) :
    s.writeRefusal it w = none ∧ mayWrite c it := by
  unfold svcAccess at h
  split at h
  case h_17 | h_18 | h_19 | h_24 | h_25 | h_28 => exact ⟨rfl, trivial⟩
  all_goals cases h

theorem writeItemCommand_reaches (arg : BitVec 16) (data : Word) (s : State) :
    Reach c s (writeItemCommand arg data s).state := by
  unfold writeItemCommand
  split
  · exact .refl s
  · split
    · exact .refl s
    · exact .refl s
    · next ha =>
      split_ifs with hbad
      · exact .refl s
      · obtain ⟨href, hc⟩ := mayWrite_of_svcAccess (c := c) ha s data
        exact writeItem_reaches (by simpa using hbad) href hc

theorem pushCommand_reaches (arg : BitVec 16) (data : Word) (s : State) :
    Reach c s (pushCommand arg data s).state := by
  unfold pushCommand
  split
  · exact .refl s
  · split_ifs with hfull
    · exact .refl s
    · exact pushChar_reaches (o := .service) (Nat.lt_of_not_le hfull) _

theorem seizeCommand_reaches (hc : ∀ l, c.changesOwner l) (arg : BitVec 16) (s : State) :
    Reach c s (seizeCommand arg s).state := by
  unfold seizeCommand
  split
  · exact .refl s
  · exact seize_reaches (hc _) s

theorem yieldCommand_reaches (hc : ∀ l, c.changesOwner l) (arg : BitVec 16) (s : State) :
    Reach c s (yieldCommand arg s).state := by
  unfold yieldCommand
  split
  · exact .refl s
  · exact yieldLine_reaches (hc _) s

theorem ringCommand_reaches (arg : BitVec 16) (data : Word) (s : State) :
    Reach c s (ringCommand arg data s).state := by
  unfold ringCommand
  split
  · exact .refl s
  · split_ifs
    · exact .refl s
    · exact setBell_reaches s _ _

theorem restartCommand_reaches (arg : BitVec 16) (s : State) : Reach c s (restartCommand arg s).state := by
  unfold restartCommand
  split
  · exact .refl s
  · dsimp only
    split_ifs
    · exact requestHold_reaches s _ _
    · exact requestPulse_reaches s _ _

theorem releaseCommand_reaches (arg : BitVec 16) (s : State) : Reach c s (releaseCommand arg s).state := by
  unfold releaseCommand
  split
  · exact .refl s
  · exact requestRelease_reaches s _

theorem targetModeOfArg_low {arg : BitVec 16} {k : TargetId} {hold : Bool} (h : targetModeOfArg arg = some (k, hold)) :
    arg.toNat % 256 = k.val := by
  unfold targetModeOfArg at h
  split_ifs at h <;> cases h <;> rfl

theorem holdCommand_reaches (m : Moment) (arg : BitVec 16) (data : Word) (s : State) :
    Reach (.hold m arg data) s (holdCommand arg s).state := by
  unfold holdCommand
  split
  · exact .refl s
  · next k hold hk =>
    exact Change.reach (.target k _ rfl rfl rfl (.inr ⟨m, arg, data, rfl, targetModeOfArg_low hk⟩))

theorem alertClearCommand_reaches (arg : BitVec 16) (data : Word) (s : State) :
    Reach c s (alertClearCommand arg data s).state := by
  unfold alertClearCommand
  split_ifs
  · exact Change.reach (.service _ (.inl rfl) (.inl rfl))
  · exact .refl s

theorem clearAllCommand_reaches (m : Moment) (arg : BitVec 16) (data : Word) (s : State) :
    Reach (.clearAll m arg data) s (clearAllCommand arg s).state := by
  unfold clearAllCommand
  split_ifs
  · exact Change.reach (.clearAll (.inl ⟨m, arg, data, rfl⟩))
  · exact .refl s

theorem abortFrame_reaches (m : Moment) (s : State) : Reach (.abortedFrame m) s (abortFrame s) :=
  Change.reach (.service _ (.inl rfl) (.inr ⟨m, rfl⟩))

/-! ### Every step -/

theorem transaction_reaches {write priv : Bool} {num : ItemNumber} {data : Word}
    (h : c.access = some (write, priv, num, data)) (he : exec c s = .next t) : Reach c s t := by
  rw [exec_of_access h, exec_hostTransactionBegin, execHostTransactionBegin, Host.Outcome.next.injEq] at he
  subst he
  exact takeStep_reaches (hostAct_reaches h _)

theorem receiveMoveFaults_enter (s : State) (m : Moment) (l : LineId) :
    receiveMoveFaults (s.enter m) l = receiveMoveFaults s l := by
  simp [receiveMoveFaults]

/-- A receive move takes its step, or faults while RESET_N is high. -/
theorem receiveMove_step_reaches {m : Moment} {l : LineId} (he : exec (.receiveMove m l) s = .next t) :
    Reach (.receiveMove m l) s t := by
  change execReceiveMove m l s = .next t at he
  unfold execReceiveMove at he
  split_ifs at he with hfault
  cases he
  by_cases hreset : s.inReset = true
  · rw [takeStep_of_low hreset]
    exact Reach.clock (.refl s) rfl
  · refine takeStep_reaches (receiveMove_reaches (.inl ⟨m, l, rfl⟩) ?_)
    rw [receiveMoveFaults_enter]
    simpa [hreset] using hfault

theorem transmitMove_step_reaches {m : Moment} {l : LineId} (he : exec (.transmitMove m l) s = .next t) :
    Reach (.transmitMove m l) s t := by
  change execTransmitMove m l s = .next t at he
  unfold execTransmitMove at he
  split_ifs at he with hfault
  cases he
  exact takeStep_reaches (transmitMove_reaches _ l)

theorem receiverSample_reaches (m : Moment) (l : LineId) (he : exec (.receiverSample m l) s = .next t) :
    Reach c s t := by
  change execReceiverSample m l s = .next t at he
  unfold execReceiverSample at he
  cases he
  split_ifs
  · exact Reach.clock (.refl s) rfl
  · exact (enter_reaches s m).trans (sampleReceiver_reaches _ l)

/-- Every step of a command other than a reset is a run of changes. -/
theorem exec_reaches (he : exec c s = .next t) (hr : c.isReset = false) : Reach c s t := by
  cases c with
  | resetNAssert | resetNRelease => cases hr
  | status m arg => cases he; exact readCommand_reaches (statusCommand_reaches arg) s
  | read m arg => cases he; exact readCommand_reaches (readItem_reaches arg) s
  | pop m arg => cases he; exact readCommand_reaches (popCommand_reaches arg) s
  | snapshot m arg => cases he; exact readCommand_reaches (snapshotCommand_reaches m arg) s
  | write m arg data => cases he; exact writeCommand_reaches (writeItemCommand_reaches arg data) s
  | lineControlStart | lineControlStop | lineControlClear | lineSerr =>
    cases he
    exact writeCommand_reaches (writeItemCommand_reaches _ _) s
  | push m arg data => cases he; exact writeCommand_reaches (pushCommand_reaches arg data) s
  | seizeLine m arg data =>
    cases he
    exact writeCommand_reaches (seizeCommand_reaches (fun _ => .inr (.inl ⟨m, arg, data, rfl⟩)) arg) s
  | yieldLine m arg data =>
    cases he
    exact writeCommand_reaches (yieldCommand_reaches (fun _ => .inr (.inr (.inl ⟨m, arg, data, rfl⟩))) arg) s
  | ring m arg data => cases he; exact writeCommand_reaches (ringCommand_reaches arg data) s
  | restart m arg data => cases he; exact writeCommand_reaches (restartCommand_reaches arg) s
  | releaseTarget m arg data => cases he; exact writeCommand_reaches (releaseCommand_reaches arg) s
  | hold m arg data => cases he; exact writeCommand_reaches (holdCommand_reaches m arg data) s
  | alertClear m arg data => cases he; exact writeCommand_reaches (alertClearCommand_reaches arg data) s
  | clearAll m arg data => cases he; exact writeCommand_reaches (clearAllCommand_reaches m arg data) s
  | badCommand m code arg data => cases he; exact writeCommand_reaches (fun u => .refl u) s
  | abortedFrame m =>
    cases he
    refine takeStep_reaches ?_
    split_ifs
    · exact Reach.refl _
    · exact abortFrame_reaches m _
  | heldRequestCompletion m => cases he; exact takeEarlyStep_reaches (completeHeld_reaches _)
  | waitLimitExpiry m => cases he; exact takeStep_reaches (expireHeld_reaches _)
  | receiverCompletion m l given =>
    cases he
    exact takeStep_reaches (completeReceive_reaches (.inl ⟨m, given, rfl⟩) _ given)
  | transmitterStart m l => cases he; exact takeStep_reaches (startTransmit_reaches _ l)
  | transmitterCompletion m l => cases he; exact takeStep_reaches (completeTransmit_reaches _ l)
  | receiveMove m l => exact receiveMove_step_reaches he
  | transmitMove m l => exact transmitMove_step_reaches he
  | tickStep m => cases he; exact takeEarlyStep_reaches (takeTick_reaches _)
  | expiry m n => cases he; exact takeEarlyStep_reaches (takeExpiry_reaches _ n)
  | pulseEnd m k => cases he; exact takeEarlyStep_reaches (endPulse_reaches _ k)
  | buttonPress m =>
    cases he
    refine takeEarlyStep_reaches ?_
    split_ifs
    · exact sampleButton_reaches _
    · exact Reach.refl _
  | xrSampling m => cases he; exact takeStep_reaches (sampleXr_reaches _)
  | buttonSample m => cases he; exact takeEarlyStep_reaches (sampleButton_reaches _)
  | receiverSample m l => exact receiverSample_reaches m l he
  | _ => exact transaction_reaches rfl he

end Sys2Proof.Machine
end


section
/-! PROOFS. What the beginning of a restart (R145, R77) and CLEAR_ALL (R156) make of the state, each as one record. -/

namespace Sys2Proof.Machine

open Sys2Proof

/-! ### Sources -/

/-- The state with another source table. -/
theorem State.sources_ext {s t : State} (hrest : t = { s with sources := t.sources }) (x : Vector Source 38)
    (h : ∀ i : SourceId, t.src i = x[i.val]) : t = { s with sources := x } := by
  rw [hrest]
  congr 1
  exact Vector.ext fun i hi => h ⟨i, hi⟩

/-- A source that is out of service stays as it is. -/
theorem Source.leaveService_leaveService (x : Source) : x.leaveService.leaveService = x.leaveService := by
  rw [Source.leaveService_eq x, Source.leaveService_eq]
  have hleft : ∀ y : Source, y.state = x.left → y.left = x.left := by
    intro y hy
    unfold Source.left
    rw [hy]
    unfold Source.left
    cases y.entry.trigger <;> cases x.entry.trigger <;> cases x.state <;> dsimp only <;> split_ifs <;> rfl
  rw [hleft { x with state := x.left } rfl]

theorem releaseStack_eq (s : State) (l : List (SourceId × BitVec 5)) :
    releaseStack s l = { s with sources := (releaseStack s l).sources } := by
  unfold releaseStack
  induction l generalizing s with
  | nil => rfl
  | cons e l ih => rw [List.foldl_cons, ih]; rfl

theorem releaseStack_src (s : State) (l : List (SourceId × BitVec 5)) (i : SourceId) :
    (releaseStack s l).src i = if i ∈ l.map (·.1) then (s.src i).leaveService else s.src i := by
  unfold releaseStack
  induction l generalizing s with
  | nil => rfl
  | cons e l ih =>
    rw [List.foldl_cons, ih, State.src_setSrc]
    by_cases he : e.1 = i
    · subst he
      simp [Source.leaveService_leaveService]
    · simp [he, Ne.symm he]

theorem flushUrgent_eq (s : State) (q : List SourceId) :
    flushUrgent s q = { s with sources := (flushUrgent s q).sources } := by
  unfold flushUrgent
  induction q generalizing s with
  | nil => rfl
  | cons e l ih => rw [List.foldl_cons, ih]; rfl

theorem flushUrgent_src (s : State) (q : List SourceId) (i : SourceId) :
    (flushUrgent s q).src i = if i ∈ q then { s.src i with state := .idle } else s.src i := by
  unfold flushUrgent
  induction q generalizing s with
  | nil => rfl
  | cons e l ih =>
    rw [List.foldl_cons, ih]
    unfold State.setSrcState
    rw [State.src_setSrc]
    by_cases he : e = i
    · subst he
      simp
    · simp [he, Ne.symm he]

/-! ### The beginning of a restart (R145, R77) -/

theorem clearContext_eq (s : State) (k : TargetId) :
    clearContext s k =
      { s with
        targets := s.targets.set k.val { s.tgt k with stack := [], urgent := [], floor := 0, dispatch := 0 } k.isLt
        sources := Vector.ofFn fun i : SourceId =>
          if i ∈ (s.tgt k).urgent then { s.src i with state := .idle }
          else if i ∈ (s.tgt k).stack.map (·.1) then { s.src i with state := (s.src i).left }
          else s.src i } := by
  have hsources : flushUrgent (releaseStack s (s.tgt k).stack) (s.tgt k).urgent =
      { s with sources := Vector.ofFn fun i : SourceId =>
          if i ∈ (s.tgt k).urgent then { s.src i with state := .idle }
          else if i ∈ (s.tgt k).stack.map (·.1) then { s.src i with state := (s.src i).left }
          else s.src i } := by
    refine State.sources_ext ?_ _ fun i => ?_
    · rw [flushUrgent_eq, releaseStack_eq]
    · rw [flushUrgent_src, releaseStack_src, Vector.getElem_ofFn, Source.leaveService_eq]
      split_ifs <;> rfl
  unfold clearContext
  dsimp only
  rw [hsources]
  rfl

theorem enterRestart_eq (s : State) (k : TargetId) (st : RunState) (cause : Cause) :
    enterRestart s k st cause = s.restartBegun k st cause := by
  unfold enterRestart State.restartBegun
  dsimp only
  rw [clearContext_eq, satInc_byte]
  simp only [State.setBell, State.setRestart, State.tgt, State.src, State.bell, State.restart]
  rfl

section Begun
variable (s : State) (k : TargetId) (st : RunState) (cause : Cause)

theorem State.restartBegun_src (i : SourceId) :
    (s.restartBegun k st cause).src i =
      if i ∈ (s.tgt k).urgent then { s.src i with state := .idle }
      else if i ∈ (s.tgt k).stack.map (·.1) then { s.src i with state := (s.src i).left }
      else s.src i := by
  simp [State.restartBegun, State.src]

theorem State.restartBegun_tgt (j : TargetId) :
    (s.restartBegun k st cause).tgt j =
      if k = j then { s.tgt k with stack := [], urgent := [], floor := 0, dispatch := 0 } else s.tgt j :=
  s.tgt_setTgt k j _

theorem State.restartBegun_restart (j : TargetId) :
    (s.restartBegun k st cause).restart j =
      if k = j then
        { s.restart k with
          state := st
          count := if (s.restart k).count = 255 then 255 else (s.restart k).count + 1
          cause := cause }
      else s.restart j :=
  s.restart_setRestart k j _

end Begun

/-! ### CLEAR_ALL (R156) -/

theorem clearSources_eq (s : State) :
    clearSources s =
      { s with sources := Vector.ofFn fun i : SourceId => ⟨powerOnEntry i, .idle, (s.src i).input, 0⟩ } := by
  have hfold : ∀ (l : List SourceId) (u : State), l.Nodup →
      l.foldl clearSource u = { u with sources := (l.foldl clearSource u).sources } ∧
        ∀ i, (l.foldl clearSource u).src i =
          if i ∈ l then ⟨powerOnEntry i, .idle, (u.src i).input, 0⟩ else u.src i := by
    intro l
    induction l with
    | nil => exact fun u _ => ⟨rfl, fun _ => rfl⟩
    | cons j l ih =>
      intro u hl
      obtain ⟨hj, hl⟩ := List.nodup_cons.1 hl
      obtain ⟨hrest, hsrc⟩ := ih (clearSource u j) hl
      refine ⟨by rw [List.foldl_cons, hrest]; rfl, fun i => ?_⟩
      rw [List.foldl_cons, hsrc]
      unfold clearSource
      rw [State.src_setSrc]
      by_cases hji : j = i
      · subst hji
        simp [hj]
      · simp [hji, Ne.symm hji]
  obtain ⟨hrest, hsrc⟩ := hfold allSources s (List.nodup_finRange 38)
  refine State.sources_ext hrest _ fun i => ?_
  rw [Vector.getElem_ofFn]
  exact (hsrc i).trans (if_pos (mem_allSources i))

/-- The host port in CLEAR_ALL (R18). -/
theorem clearHost_eq (s : State) :
    clearHost s =
      { s with host := match s.heldRequest with
        | none => { s.host with waitLimit := 0, fault := .empty, flowCount := 0 }
        | some _ =>
          { s.host with
            phase := if s.pins.hreq then .completed else .idle
            hdone := false
            hrefuse := s.pins.hreq
            hdata := Reason.cleared.code.setWidth 32
            waitLimit := 0
            fault := .empty
            flowCount := 0 } } := by
  unfold clearHost State.driveRefused State.drive
  cases s.heldRequest with
  | none => rfl
  | some h => simp [place_zero]

theorem clearAll_eq (s : State) :
    clearAll s =
      { s with
        host := (clearHost s).host
        svc := { s.svc with
          posted := ServicePort.powerOn.posted, sticky := 0, doorbells := ServicePort.powerOn.doorbells }
        sources := Vector.ofFn fun i : SourceId => ⟨powerOnEntry i, .idle, (s.src i).input, 0⟩
        targets := State.reset.targets
        lineA := .powerOn
        lineB := .powerOn
        lanes := State.reset.lanes
        tick := ⟨1000, s.now⟩
        timers := State.reset.timers
        sched := { s.sched with lastTick := 0 } } := by
  have hhost : clearHost s = { s with host := (clearHost s).host } := by rw [clearHost_eq]
  unfold clearAll clearService
  dsimp only
  rw [clearSources_eq, hhost]
  rfl

theorem clearHost_ok {s : State} (h : s.host.Ok) : (clearHost s).host.Ok := by
  rw [clearHost_eq]
  dsimp only
  split
  · exact h
  · exact HostPort.ok_of_completion (done := false) rfl (by simp) (by simp)

theorem clearAll_src (s : State) (i : SourceId) :
    (clearAll s).src i = ⟨powerOnEntry i, .idle, (s.src i).input, 0⟩ := by
  simp [clearAll_eq, State.src]

end Sys2Proof.Machine
end


section
/-! PROOFS. What every step keeps of the host bus, staging memory, the timers, the lines and the lanes, shown change by
change, and that a hub whose lanes are as R118 says never stops. Settles O56 and O57. -/

namespace Sys2Proof.Machine

open Sys2Proof

/-! ### From changes to steps -/

/-- What every change keeps, RESET_N's values meet, and neither RESET_N's level nor the model's queues take part in. -/
structure Kept (P : State → Prop) : Prop where
  change : ∀ {c : Instr} {s t : State}, Change c s t → P s → P t
  queues : ∀ (s : State) (low : Bool) (pending : List Instr) (coming : List Pins), P s →
    P { s with inReset := low, pending := pending, coming := coming }
  reset : P State.reset

section Kept
variable {P : State → Prop} (h : Kept P) {c : Instr} {s t : State}
include h

theorem Kept.reach (hr : Reach c s t) (hs : P s) : P t := by
  induction hr with
  | refl => exact hs
  | tail _ hc ih => exact h.change hc ih

theorem Kept.powerOn (s : State) (m : Moment) (low : Bool) : P (s.powerOn m low) := by
  have hpins : P { State.reset with pins := m.pins } :=
    h.reach (c := .resetNAssert m) (Reach.clock (.refl State.reset) rfl) h.reset
  exact h.queues _ low s.pending s.coming hpins

theorem Kept.exec (he : Machine.exec c s = .next t) (hs : P s) : P t := by
  cases hc : c.isReset with
  | false => exact h.reach (exec_reaches he hc) hs
  | true =>
    cases c with
    | resetNAssert m => cases he; exact h.powerOn s m true
    | resetNRelease m =>
      cases he
      unfold releaseReset
      split
      · exact h.change (c := .resetNRelease m) (.service _ (.inl rfl) (.inl rfl)) (h.powerOn s m false)
      · exact hs
    | _ => cases hc

theorem Kept.passTime (hs : P s) : P (passTime s) := by
  have hcoming : P { s with coming := s.coming.tail } := h.queues s s.inReset s.pending s.coming.tail hs
  let u : State :=
    { s with
      coming := s.coming.tail
      now := s.now + 1
      pins := s.coming.headD s.pins
      sched := s.sched.newInstant }
  have hclock : P u := h.reach (c := .tickStep s.here) (Reach.clock (.refl _) rfl) hcoming
  exact h.change (c := .tickStep s.here) (s := u)
    (.host (u.host.seeReq u.pins.hreq) fun hok => seeReq_eq u.host _ ▸ hok.reqSeen _) hclock

theorem Kept.idle (he : Machine.idle s = .next t) (hs : P s) : P t := by
  have hlook : P s.look := h.reach (c := .tickStep s.here) (look_reaches s) hs
  unfold Machine.idle at he
  split at he
  · cases he; exact hs
  · split at he
    · exact h.exec he hs
    · split at he
      · exact h.exec he hlook
      · cases he; exact h.passTime hlook

theorem Kept.step (he : Machine.step s = .next t) (hs : P s) : P t := by
  unfold Machine.step at he
  split at he
  · exact h.exec he (h.queues s s.inReset _ s.coming hs)
  · exact h.idle he hs

end Kept

/-! ### The host bus, staging memory and the timers -/

theorem takeUrgent_eq (s : State) (k : TargetId) :
    takeUrgent s k = { s with sources := (takeUrgent s k).sources, targets := (takeUrgent s k).targets } := by
  unfold takeUrgent
  split <;> rfl

/-- What a change of the event sources and the targets leaves alone. -/
structure EventsOnly (s t : State) : Prop where
  host : t.host = s.host
  staging : t.staging = s.staging
  tick : t.tick = s.tick
  timers : t.timers = s.timers
  lineA : t.lineA = s.lineA
  lineB : t.lineB = s.lineB
  lanes : t.lanes = s.lanes
  snap : t.svc.snap = s.svc.snap
  abortCount : t.svc.abortCount = s.svc.abortCount
  pending : t.pending = s.pending
  coming : t.coming = s.coming

theorem eventsOnly_restartEntry (s : State) (k : TargetId) (st : RunState) (cause : Cause) :
    EventsOnly s (enterRestart s k st cause) := by
  rw [enterRestart_eq]
  exact ⟨rfl, rfl, rfl, rfl, rfl, rfl, rfl, rfl, rfl, rfl, rfl⟩

theorem eventsOnly_takeUrgent (s : State) (k : TargetId) : EventsOnly s (takeUrgent s k) := by
  rw [takeUrgent_eq]
  exact ⟨rfl, rfl, rfl, rfl, rfl, rfl, rfl, rfl, rfl, rfl, rfl⟩

theorem eventsOnly_endOfStep (s : State) : EventsOnly s (endOfStep s) :=
  ⟨endOfStep_host s, endOfStep_staging s, endOfStep_tick s, endOfStep_timers s, endOfStep_lineA s, endOfStep_lineB s,
    endOfStep_lanes s, endOfStep_snap s, endOfStep_abortCount s, endOfStep_pending s, endOfStep_coming s⟩

section Change
variable {c : Instr} {s t : State} (h : Change c s t)
include h

theorem Change.host_ok (hs : s.host.Ok) : t.host.Ok := by
  cases h with
  | host p hok => exact hok hs
  | line l => cases l <;> exact hs
  | restartEntry => rw [(eventsOnly_restartEntry ..).host]; exact hs
  | takeUrgent => rw [(eventsOnly_takeUrgent ..).host]; exact hs
  | endOfStep => rw [endOfStep_host]; exact hs
  | clearAll => rw [clearAll_eq]; exact clearHost_ok hs
  | _ => exact hs

theorem Change.staging_wf (hs : Memory.wf s.staging = true) : Memory.wf t.staging = true := by
  cases h with
  | staging mem hwf => exact hwf hs
  | line l => cases l <;> exact hs
  | restartEntry => rw [(eventsOnly_restartEntry ..).staging]; exact hs
  | takeUrgent => rw [(eventsOnly_takeUrgent ..).staging]; exact hs
  | endOfStep => rw [endOfStep_staging]; exact hs
  | clearAll => rw [clearAll_eq]; exact hs
  | _ => exact hs

theorem Change.tick_length (hs : s.tick.length ≠ 0) : t.tick.length ≠ 0 := by
  cases h with
  | tick x hx => exact hx
  | line l => cases l <;> exact hs
  | restartEntry => rw [(eventsOnly_restartEntry ..).tick]; exact hs
  | takeUrgent => rw [(eventsOnly_takeUrgent ..).tick]; exact hs
  | endOfStep => rw [endOfStep_tick]; exact hs
  | clearAll => rw [clearAll_eq]; exact (by decide : (1000 : BitVec 16) ≠ 0)
  | _ => exact hs

theorem Change.timer_ok (n : TimerId) (hs : (s.timer n).Ok) : (t.timer n).Ok := by
  cases h with
  | timer k x hok =>
    rw [State.timer_setTimer]
    split
    · next hk => subst hk; exact hok hs
    · exact hs
  | line l => cases l <;> exact hs
  | restartEntry => rw [State.timer_congr (eventsOnly_restartEntry ..).timers]; exact hs
  | takeUrgent => rw [State.timer_congr (eventsOnly_takeUrgent ..).timers]; exact hs
  | endOfStep => rw [endOfStep_timer]; exact hs
  | clearAll =>
    have hcleared : (Machine.clearAll s).timers = State.reset.timers := by rw [clearAll_eq]
    rw [State.timer_congr hcleared]
    fin_cases n <;> exact Timer.ok_powerOn
  | _ => exact hs

theorem Change.line_ok (l : LineId) (hs : (s.line l).Ok) : (t.line l).Ok := by
  cases h with
  | line k x hok =>
    rw [State.line_setLine]
    split
    · next hk => subst hk; exact hok hs
    · exact hs
  | restartEntry =>
    rw [State.line_congr (eventsOnly_restartEntry ..).lineA (eventsOnly_restartEntry ..).lineB]; exact hs
  | takeUrgent => rw [State.line_congr (eventsOnly_takeUrgent ..).lineA (eventsOnly_takeUrgent ..).lineB]; exact hs
  | endOfStep => rw [endOfStep_line]; exact hs
  | clearAll => rw [clearAll_eq]; cases l <;> exact Line.ok_powerOn
  | _ => exact hs

theorem Change.lane_ok (n : LaneId) (hs : (s.lane n).Ok) : (t.lane n).Ok := by
  cases h with
  | lane k x hok =>
    rw [State.lane_setLane]
    split
    · next hk => subst hk; exact hok hs
    · exact hs
  | line l => cases l <;> exact hs
  | restartEntry => rw [State.lane_congr (eventsOnly_restartEntry ..).lanes]; exact hs
  | takeUrgent => rw [State.lane_congr (eventsOnly_takeUrgent ..).lanes]; exact hs
  | endOfStep => rw [endOfStep_lane]; exact hs
  | clearAll =>
    have hcleared : (Machine.clearAll s).lanes = State.reset.lanes := by rw [clearAll_eq]
    rw [State.lane_congr hcleared]
    fin_cases n <;> exact Lane.ok_powerOn
  | _ => exact hs

end Change

theorem timer_reset (n : TimerId) : State.reset.timer n = .powerOn := by fin_cases n <;> rfl

theorem lane_reset (n : LaneId) : State.reset.lane n = .powerOn := by fin_cases n <;> rfl

theorem line_reset (l : LineId) : State.reset.line l = .powerOn := by cases l <;> rfl

theorem kept_hostInv : Kept HostInv where
  change h hs := h.host_ok hs
  queues _ _ _ _ hs := hs
  reset := by simp [HostInv, State.reset, HostPort.powerOn]

theorem kept_stagingInv : Kept StagingInv where
  change h hs := h.staging_wf hs
  queues _ _ _ _ hs := hs
  reset := rfl

theorem kept_timerInv : Kept TimerInv where
  change h hs := ⟨h.tick_length hs.1, fun n => h.timer_ok n (hs.2 n)⟩
  queues _ _ _ _ hs := hs
  reset := ⟨by decide, fun n => by rw [timer_reset]; exact Timer.ok_powerOn⟩

theorem kept_lineInv : Kept LineInv where
  change h hs l := h.line_ok l (hs l)
  queues _ _ _ _ hs l := by cases l; exacts [hs .a, hs .b]
  reset l := line_reset l ▸ Line.ok_powerOn

theorem kept_laneInv : Kept LaneInv where
  change h hs n := h.lane_ok n (hs n)
  queues _ _ _ _ hs := hs
  reset n := lane_reset n ▸ Lane.ok_powerOn

/-- Settles O56. -/
theorem stepsKeepTheHostBusStagingAndTimers : Obligations.StepsKeepTheHostBusStagingAndTimers :=
  fun _ _ he => ⟨kept_hostInv.step he, kept_stagingInv.step he, kept_timerInv.step he⟩

/-! ### No step stops -/

theorem receiveMove_no_fault {s : State} (h : LaneInv s) (l : LineId) : receiveMoveFaults s l = false := by
  unfold receiveMoveFaults
  split
  · next job moved e rest hrun _ =>
    have := (h (rxLane l)).address_lt hrun
    simp only [Bool.and_eq_false_iff, decide_eq_false_iff_not]
    exact .inr (by omega)
  · rfl

theorem transmitMove_no_fault {s : State} (h : LaneInv s) (l : LineId) : transmitMoveFaults s l = false := by
  unfold transmitMoveFaults
  split
  · next job moved hrun =>
    have := (h (txLane l)).address_lt hrun
    simp only [Bool.and_eq_false_iff, decide_eq_false_iff_not]
    exact .inr (by omega)
  · rfl

/-- Only the moves of the sequencer can fault, and they reach no address beyond staging memory. -/
theorem exec_next {s : State} (h : LaneInv s) (c : Instr) : ∃ t, exec c s = .next t := by
  cases c with
  | receiveMove m l =>
    exact ⟨takeStep m (fun x => receiveMove x l) s, if_neg (by simp [receiveMove_no_fault h])⟩
  | transmitMove m l =>
    exact ⟨takeStep m (fun x => transmitMove x l) s, if_neg (by simp [transmitMove_no_fault h])⟩
  | _ => exact ⟨_, rfl⟩

theorem step_next {s : State} (h : LaneInv s) : ∃ t, step s = .next t := by
  unfold step
  split
  · next c rest _ => exact exec_next (s := { s with pending := rest }) h c
  · unfold idle
    split
    · exact ⟨_, rfl⟩
    · split
      · exact exec_next h _
      · split
        · exact exec_next (s := s.look) h _
        · exact ⟨_, rfl⟩

/-- Settles O57. -/
theorem stepsKeepLinesAndLanesAndNeverStop : Obligations.StepsKeepLinesAndLanesAndNeverStop :=
  ⟨fun _ _ he => ⟨kept_lineInv.step he, kept_laneInv.step he⟩, fun _ h => step_next h⟩

end Sys2Proof.Machine
end


section
/-! PROOFS. What every step keeps of source states, service stacks and urgent queues (R58, R76, spec/03). Settles O58. -/

namespace Sys2Proof.Machine

open Sys2Proof

/-! ### One source, one target context -/

/-- The source is ACTIVE or ACTIVE_PENDING with this target. -/
def Source.inService (x : Source) (k : TargetId) : Prop := x.state = .active k ∨ x.state = .activePending k

/-- What spec/03 and spec/04 say of one source by itself. -/
structure Source.Ok (x : Source) : Prop where
  queuedUrgent : ∀ k, x.state = .queued k → x.entry.cls = .urgent ∧ x.entry.fixed = k
  urgentStates : x.entry.cls = .urgent → x.state = .idle ∨ ∃ k, x.state = .queued k
  disabledQuiet : x.entry.enable = false → x.state ≠ .pending ∧ ∀ k, x.state ≠ .activePending k

/-- What R58 says of one target context by itself. -/
structure Target.Ok (x : Target) : Prop where
  stackShort : x.stack.length ≤ Config.stackDepth
  rising : x.stack.Pairwise (fun a b => a.2 < b.2)
  stackOnce : (x.stack.map (·.1)).Nodup
  urgentShort : x.urgent.length ≤ Config.urgentDepth
  urgentOnce : x.urgent.Nodup

section Parts
variable {s : State} (h : EventInv s)
include h

theorem EventInv.src_ok (i : SourceId) : (s.src i).Ok := ⟨h.queuedUrgent i, h.urgentStates i, h.disabledQuiet i⟩

theorem EventInv.tgt_ok (k : TargetId) : (s.tgt k).Ok :=
  ⟨h.stackShort k, h.rising k, h.stackOnce k, h.urgentShort k, h.urgentOnce k⟩

/-- A source in service with a target is in no other stack and in no urgent queue. -/
theorem EventInv.only_there {i : SourceId} {k : TargetId} (hi : i ∈ (s.tgt k).stack.map (·.1)) :
    (∀ j ≠ k, i ∉ (s.tgt j).stack.map (·.1)) ∧ ∀ j, i ∉ (s.tgt j).urgent := by
  have hk := (h.inStack k i).1 hi
  refine ⟨fun j hj hin => ?_, fun j hin => ?_⟩
  · rcases hk with hk | hk <;> rcases (h.inStack j i).1 hin with hs | hs <;> rw [hk] at hs <;> cases hs <;>
      exact hj rfl
  · have hs := (h.inUrgent j i).1 hin
    rcases hk with hk | hk <;> rw [hk] at hs <;> cases hs

/-- A source in service is NORMAL. -/
theorem EventInv.normal_of_inService {i : SourceId} {k : TargetId} (hi : (s.src i).inService k) :
    (s.src i).entry.cls = .normal := by
  cases hc : (s.src i).entry.cls with
  | normal => rfl
  | urgent =>
    exfalso
    rcases h.urgentStates i hc with hs | ⟨j, hs⟩ <;> rcases hi with hi | hi <;> rw [hi] at hs <;> cases hs

end Parts

/-- Entries, states, stacks and urgent queues are as before, and no target has left RUN. -/
theorem EventInv.congr {s t : State} (h : EventInv s)
    (hsrc : ∀ i, (t.src i).entry = (s.src i).entry ∧ (t.src i).state = (s.src i).state)
    (htgt : ∀ k, (t.tgt k).stack = (s.tgt k).stack ∧ (t.tgt k).urgent = (s.tgt k).urgent)
    (hrun : ∀ k, (s.restart k).state = .run → (t.restart k).state = .run) : EventInv t where
  stackShort k := by rw [(htgt k).1]; exact h.stackShort k
  rising k := by rw [(htgt k).1]; exact h.rising k
  stackOnce k := by rw [(htgt k).1]; exact h.stackOnce k
  inStack k i := by rw [(htgt k).1, (hsrc i).2]; exact h.inStack k i
  levels k e he := by rw [(hsrc e.1).1]; exact h.levels k e ((htgt k).1 ▸ he)
  urgentShort k := by rw [(htgt k).2]; exact h.urgentShort k
  urgentOnce k := by rw [(htgt k).2]; exact h.urgentOnce k
  inUrgent k i := by rw [(htgt k).2, (hsrc i).2]; exact h.inUrgent k i
  queuedUrgent i k := by rw [(hsrc i).1, (hsrc i).2]; exact h.queuedUrgent i k
  urgentStates i := by rw [(hsrc i).1, (hsrc i).2]; exact h.urgentStates i
  disabledQuiet i := by rw [(hsrc i).1, (hsrc i).2]; exact h.disabledQuiet i
  restartEmpty k hk := by
    rw [(htgt k).1, (htgt k).2]
    exact h.restartEmpty k fun hr => hk (hrun k hr)

/-- Every source is IDLE, every stack and every urgent queue empty. -/
theorem EventInv.of_quiet {s : State} (hsrc : ∀ i, (s.src i).state = .idle)
    (htgt : ∀ k, (s.tgt k).stack = [] ∧ (s.tgt k).urgent = []) : EventInv s where
  stackShort k := by simp [(htgt k).1]
  rising k := by simp [(htgt k).1]
  stackOnce k := by simp [(htgt k).1]
  inStack k i := by simp [(htgt k).1, hsrc i]
  levels k e he := by simp [(htgt k).1] at he
  urgentShort k := by simp [(htgt k).2]
  urgentOnce k := by simp [(htgt k).2]
  inUrgent k i := by simp [(htgt k).2, hsrc i]
  queuedUrgent i k hq := by simp [hsrc i] at hq
  urgentStates i _ := .inl (hsrc i)
  disabledQuiet i _ := by simp [hsrc i]
  restartEmpty k _ := htgt k

/-! ### A source changes where it stands -/

/-- The two sources stand in the same stack or urgent queue, at the same level if in service. -/
structure Source.SamePlace (x y : Source) : Prop where
  service : ∀ k, y.inService k ↔ x.inService k
  queued : ∀ k, y.state = .queued k ↔ x.state = .queued k
  level : ∀ k, x.inService k → y.entry.level = x.entry.level

/-- Nothing but the merge count and the input differs. -/
theorem Source.samePlace_of_same {x y : Source} (hstate : y.state = x.state) (hentry : y.entry = x.entry) :
    x.SamePlace y :=
  ⟨fun k => by rw [Source.inService, Source.inService, hstate], fun k => by rw [hstate], fun _ _ => by rw [hentry]⟩

theorem Source.Ok.of_same {x y : Source} (h : x.Ok) (hstate : y.state = x.state) (hentry : y.entry = x.entry) : y.Ok :=
  ⟨by rw [hstate, hentry]; exact h.queuedUrgent, by rw [hstate, hentry]; exact h.urgentStates,
    by rw [hstate, hentry]; exact h.disabledQuiet⟩

/-- One source is replaced by one that stands in the same place. -/
theorem EventInv.setSrc {s : State} (h : EventInv s) (i : SourceId) {x : Source} (hplace : (s.src i).SamePlace x)
    (hok : x.Ok) : EventInv (s.setSrc i x) := by
  have hall : ∀ j, (s.src j).SamePlace ((s.setSrc i x).src j) ∧ ((s.setSrc i x).src j).Ok := by
    intro j
    rw [State.src_setSrc]
    split
    · next hij => subst hij; exact ⟨hplace, hok⟩
    · exact ⟨Source.samePlace_of_same rfl rfl, h.src_ok j⟩
  exact {
    stackShort := h.stackShort
    rising := h.rising
    stackOnce := h.stackOnce
    inStack := fun k j => (h.inStack k j).trans ((hall j).1.service k).symm
    levels := fun k e he =>
      ((hall e.1).1.level k ((h.inStack k e.1).1 (List.mem_map_of_mem he))).trans (h.levels k e he)
    urgentShort := h.urgentShort
    urgentOnce := h.urgentOnce
    inUrgent := fun k j => (h.inUrgent k j).trans ((hall j).1.queued k).symm
    queuedUrgent := fun j => (hall j).2.queuedUrgent
    urgentStates := fun j => (hall j).2.urgentStates
    disabledQuiet := fun j => (hall j).2.disabledQuiet
    restartEmpty := h.restartEmpty }

/-- What becomes of source `i` and target `k` when the source enters or leaves a stack or the urgent queue of `k`. -/
structure Moves (s : State) (i : SourceId) (k : TargetId) (x : Source) (y : Target) : Prop where
  source : x.Ok
  target : y.Ok
  entry : x.entry = (s.src i).entry
  stack : i ∈ y.stack.map (·.1) ↔ x.inService k
  urgent : i ∈ y.urgent ↔ x.state = .queued k
  others : ∀ j ≠ i, (j ∈ y.stack.map (·.1) ↔ j ∈ (s.tgt k).stack.map (·.1)) ∧ (j ∈ y.urgent ↔ j ∈ (s.tgt k).urgent)
  entries : ∀ e ∈ y.stack, e ∈ (s.tgt k).stack ∨ e = (i, x.entry.level)
  elsewhere : ∀ j ≠ k, (¬ x.inService j ∧ ¬ (s.src i).inService j) ∧ x.state ≠ .queued j ∧ (s.src i).state ≠ .queued j
  empty : (s.restart k).state ≠ .run → y.stack = [] ∧ y.urgent = []

theorem EventInv.moves {s : State} (h : EventInv s) {i : SourceId} {k : TargetId} {x : Source} {y : Target}
    (hm : Moves s i k x y) : EventInv ((s.setSrc i x).setTgt k y) := by
  have htgt : ∀ j, ((s.setSrc i x).setTgt k y).tgt j = if k = j then y else s.tgt j := fun j => State.tgt_setTgt _ k j y
  have hsrc : ∀ j, ((s.setSrc i x).setTgt k y).src j = if i = j then x else s.src j := fun j => s.src_setSrc i j x
  have htok : ∀ j, (((s.setSrc i x).setTgt k y).tgt j).Ok := by
    intro j; rw [htgt]; split
    · exact hm.target
    · exact h.tgt_ok j
  have hsok : ∀ j, (((s.setSrc i x).setTgt k y).src j).Ok := by
    intro j; rw [hsrc]; split
    · exact hm.source
    · exact h.src_ok j
  have hentry : ∀ j, (((s.setSrc i x).setTgt k y).src j).entry = (s.src j).entry := by
    intro j; rw [hsrc]; split
    · next hij => subst hij; exact hm.entry
    · rfl
  refine {
    stackShort := fun j => (htok j).stackShort
    rising := fun j => (htok j).rising
    stackOnce := fun j => (htok j).stackOnce
    inStack := ?_
    levels := ?_
    urgentShort := fun j => (htok j).urgentShort
    urgentOnce := fun j => (htok j).urgentOnce
    inUrgent := ?_
    queuedUrgent := fun j => (hsok j).queuedUrgent
    urgentStates := fun j => (hsok j).urgentStates
    disabledQuiet := fun j => (hsok j).disabledQuiet
    restartEmpty := ?_ }
  · intro j m
    rw [htgt, hsrc]
    by_cases hkj : k = j <;> by_cases him : i = m
    · subst hkj him; simpa [Source.inService] using hm.stack
    · subst hkj; simpa [him] using ((hm.others m (Ne.symm him)).1).trans (h.inStack k m)
    · subst him
      obtain ⟨⟨hx, hs⟩, -⟩ := hm.elsewhere j (Ne.symm hkj)
      simpa [hkj, Source.inService] using iff_of_false (fun hin => hs ((h.inStack j i).1 hin)) hx
    · simpa [hkj, him] using h.inStack j m
  · intro j e he
    rw [hentry]
    rw [htgt] at he
    split at he
    · next hkj =>
      rcases hm.entries e he with hold | rfl
      · exact h.levels k e hold
      · rw [← hm.entry]
    · exact h.levels j e he
  · intro j m
    rw [htgt, hsrc]
    by_cases hkj : k = j <;> by_cases him : i = m
    · subst hkj him; simpa using hm.urgent
    · subst hkj; simpa [him] using ((hm.others m (Ne.symm him)).2).trans (h.inUrgent k m)
    · subst him
      obtain ⟨-, hx, hs⟩ := hm.elsewhere j (Ne.symm hkj)
      simpa [hkj] using iff_of_false (fun hin => hs ((h.inUrgent j i).1 hin)) hx
    · simpa [hkj, him] using h.inUrgent j m
  · intro j hj
    rw [htgt]
    split
    · next hkj => subst hkj; exact hm.empty hj
    · exact h.restartEmpty j hj

/-! ### Written entries (R42, R43, R49) -/

theorem SourceState.disabled_inService {x : Source} (k : TargetId) :
    (x.state.disabled = .active k ∨ x.state.disabled = .activePending k) ↔ x.inService k := by
  unfold Source.inService
  cases x.state <;> simp [SourceState.disabled]

theorem SourceState.disabled_queued (st : SourceState) (k : TargetId) : st.disabled = .queued k ↔ st = .queued k := by
  cases st <;> simp [SourceState.disabled]

theorem SourceState.disabled_idle {st : SourceState} (h : st = .idle) : st.disabled = .idle := by
  rw [h]; rfl

theorem SourceState.disabled_quiet (st : SourceState) : st.disabled ≠ .pending ∧ ∀ k, st.disabled ≠ .activePending k := by
  cases st <;> simp [SourceState.disabled]

/-- What an accepted write of an entry needs: the source is out of service and not queued, or keeps its class, its
target and its level (R42). -/
theorem Source.acceptsEntry_cases {x : Source} {e : Entry} (h : x.acceptsEntry e = true) :
    x.state = .idle ∨ (e.cls = x.entry.cls ∧ e.fixed = x.entry.fixed ∧ e.level = x.entry.level) := by
  simp only [Source.acceptsEntry, Bool.or_eq_true, Bool.and_eq_true, decide_eq_true_eq] at h
  rcases h with ⟨-, hidle⟩ | hsame
  · exact .inl hidle
  · rw [← hsame]
    exact .inr ⟨rfl, rfl, rfl⟩

theorem Source.writeEntry_samePlace {x : Source} {e : Entry} (h : x.acceptsEntry e = true) :
    x.SamePlace (x.writeEntry e) := by
  refine ⟨fun k => ?_, fun k => ?_, fun k hk => ?_⟩
  · unfold Source.writeEntry Source.inService
    dsimp only
    split
    · exact SourceState.disabled_inService k
    · rfl
  · unfold Source.writeEntry
    dsimp only
    split
    · exact SourceState.disabled_queued _ k
    · rfl
  · rcases Source.acceptsEntry_cases h with hidle | ⟨-, -, hlevel⟩
    · exact absurd hk (by simp [Source.inService, hidle])
    · exact hlevel

theorem Source.Ok.writeEntry {x : Source} (hok : x.Ok) {e : Entry} (h : x.acceptsEntry e = true) :
    (x.writeEntry e).Ok := by
  have hplace := Source.writeEntry_samePlace h
  have hidle : x.state = .idle → (x.writeEntry e).state = .idle := by
    intro hi
    unfold Source.writeEntry
    dsimp only
    split
    · exact SourceState.disabled_idle hi
    · exact hi
  refine ⟨fun k hq => ?_, fun hc => ?_, fun he => ?_⟩
  · have hold := (hplace.queued k).1 hq
    obtain ⟨hcls, hfixed⟩ := hok.queuedUrgent k hold
    rcases Source.acceptsEntry_cases h with hi | ⟨hc, hf, -⟩
    · rw [hi] at hold; cases hold
    · exact ⟨hc.trans hcls, hf.trans hfixed⟩
  · rcases Source.acceptsEntry_cases h with hi | ⟨hcls, -, -⟩
    · exact .inl (hidle hi)
    · rcases hok.urgentStates (hcls.symm.trans hc) with hi | ⟨k, hk⟩
      · exact .inl (hidle hi)
      · exact .inr ⟨k, (hplace.queued k).2 hk⟩
  · have he : e.enable = false := he
    unfold Source.writeEntry
    dsimp only
    cases hx : x.entry.enable with
    | true => simpa [he] using SourceState.disabled_quiet x.state
    | false => simpa using hok.disabledQuiet hx

/-! ### Taking and completing (R64, R67, R69) -/

/-- Every level in a rising stack is at most the CPL (R58, R59). -/
theorem Target.Ok.level_le_cpl {x : Target} (h : x.Ok) {e : SourceId × BitVec 5} (he : e ∈ x.stack) : e.2 ≤ x.cpl := by
  obtain ⟨below, top, hstack⟩ : ∃ below top, x.stack = below ++ [top] :=
    ⟨_, _, (List.dropLast_concat_getLast (List.ne_nil_of_mem he)).symm⟩
  have hcpl : x.cpl = if x.floor < top.2 then top.2 else x.floor := by
    simp [Target.cpl, hstack]
  have hle : e.2 ≤ top.2 := by
    rw [hstack] at he
    have hrise := h.rising
    rw [hstack, List.pairwise_append] at hrise
    rcases List.mem_append.1 he with hb | ht
    · have := hrise.2.2 e hb top List.mem_cons_self
      bv_omega
    · rw [List.mem_singleton.1 ht]
      exact BitVec.le_refl _
  rw [hcpl]
  split
  · exact hle
  · next hf => bv_omega

/-- A source that is neither in service nor queued anywhere. -/
theorem Source.out_of_service {x : Source} (h : x.state = .idle ∨ x.state = .pending) (k : TargetId) :
    ¬ x.inService k ∧ x.state ≠ .queued k := by
  rcases h with h | h <;> simp [Source.inService, h]

theorem EventInv.notMem_of_out {s : State} (h : EventInv s) {i : SourceId}
    (hi : (s.src i).state = .idle ∨ (s.src i).state = .pending) (k : TargetId) :
    i ∉ (s.tgt k).stack.map (·.1) ∧ i ∉ (s.tgt k).urgent := by
  obtain ⟨hs, hq⟩ := Source.out_of_service hi k
  exact ⟨fun hin => hs ((h.inStack k i).1 hin), fun hin => hq ((h.inUrgent k i).1 hin)⟩

theorem EventInv.take {s : State} (h : EventInv s) {k : TargetId} {i : SourceId} (hoffer : s.offer k = some i) :
    EventInv (takeSource s k i) := by
  obtain ⟨hcand, hoffer⟩ := (State.offer_eq_some_iff s k i).1 hoffer
  obtain ⟨hcpl, hroom, -, hrun⟩ := (State.offerable_iff s k _).1 hoffer
  obtain ⟨henable, hnormal, hpending, -⟩ := (Source.presentable_iff _ k).1 ((State.candidate_eq_some_iff s k i).1 hcand).1
  obtain ⟨hstack, hurgent⟩ := h.notMem_of_out (.inr hpending) k
  have hlow : ∀ e ∈ (s.tgt k).stack, e.2 < (s.src i).entry.level := by
    intro e he
    have := (h.tgt_ok k).level_le_cpl he
    bv_omega
  refine h.moves ⟨⟨nofun, fun hc => ?_, fun he => ?_⟩, ⟨?_, ?_, ?_, h.urgentShort k, h.urgentOnce k⟩, rfl, ?_, ?_, ?_, ?_,
    ?_, fun hr => absurd hrun hr⟩
  · cases hnormal.symm.trans hc
  · cases henable.symm.trans he
  · simpa [Config.stackDepth] using hroom
  · refine List.pairwise_append.2 ⟨h.rising k, List.pairwise_singleton _ _, fun a ha b hb => ?_⟩
    rw [List.mem_singleton.1 hb]
    exact hlow a ha
  · rw [List.map_append]
    exact List.nodup_append.2 ⟨h.stackOnce k, List.nodup_singleton _, fun a ha b hb hab => by
      obtain rfl : b = i := by simpa using hb
      exact hstack (hab ▸ ha)⟩
  · simp [Source.inService]
  · simp [hurgent]
  · intro j hj
    simp [hj]
  · intro e he
    simpa using he
  · intro j hj
    exact ⟨⟨by simp [Source.inService, hj.symm], (Source.out_of_service (.inr hpending) j).1⟩, nofun,
      (Source.out_of_service (.inr hpending) j).2⟩

theorem EventInv.takeUrgent {s : State} (h : EventInv s) (k : TargetId) : EventInv (takeUrgent s k) := by
  unfold Machine.takeUrgent
  split
  · exact h
  · next i rest hcons =>
    have hq : (s.src i).state = .queued k := (h.inUrgent k i).1 (by simp [hcons])
    have honce : i ∉ rest ∧ rest.Nodup := List.nodup_cons.1 (hcons ▸ h.urgentOnce k)
    have hshort : rest.length ≤ Config.urgentDepth := Nat.le_of_succ_le (by simpa [hcons] using h.urgentShort k)
    refine h.moves ⟨⟨nofun, fun _ => .inl rfl, fun _ => ⟨nofun, nofun⟩⟩,
      ⟨h.stackShort k, h.rising k, h.stackOnce k, hshort, honce.2⟩, rfl, ?_, ?_, ?_, fun e he => .inl he, ?_, ?_⟩
    · refine iff_of_false (fun hin => ?_) (by simp [Source.inService])
      rcases (h.inStack k i).1 hin with hs | hs <;> rw [hq] at hs <;> cases hs
    · exact iff_of_false honce.1 nofun
    · intro j hj
      simp [hcons, hj]
    · intro j hj
      refine ⟨⟨by simp [Source.inService], by simp [Source.inService, hq]⟩, nofun, ?_⟩
      rw [hq]
      exact fun hqj => hj (SourceState.queued.inj hqj).symm
    · intro hr
      simp [(h.restartEmpty k hr).2] at hcons

/-- A source that leaves service is IDLE or PENDING, and PENDING only if enabled (R48). -/
theorem Source.Ok.left {x : Source} (h : x.Ok) {k : TargetId} (hk : x.inService k) :
    x.left = .idle ∨ (x.left = .pending ∧ x.entry.enable = true) := by
  have hquiet := h.disabledQuiet
  unfold Source.left
  rcases hk with hk | hk <;> rw [hk] <;> cases x.entry.trigger <;> cases he : x.entry.enable <;> cases x.input <;>
    simp_all

theorem Source.Ok.leaves {x : Source} (h : x.Ok) {k : TargetId} (hk : x.inService k) (hc : x.entry.cls = .normal) :
    ({ x with state := x.left } : Source).Ok ∧ (x.left = .idle ∨ x.left = .pending) := by
  rcases h.left hk with hl | ⟨hl, he⟩
  · refine ⟨⟨fun k hq => ?_, fun _ => .inl hl, fun _ => by simp [hl]⟩, .inl hl⟩
    cases hl.symm.trans hq
  · refine ⟨⟨fun k hq => ?_, fun hu => ?_, fun hd => ?_⟩, .inr hl⟩
    · cases hl.symm.trans hq
    · cases hc.symm.trans hu
    · cases he.symm.trans hd

theorem EventInv.complete {s : State} (h : EventInv s) {k : TargetId} {i : SourceId}
    (hin : Machine.inStack (s.tgt k).stack i = true) : EventInv (completeSource s k i) := by
  have hin := (inStack_iff _ i).1 hin
  have hk : (s.src i).inService k := (h.inStack k i).1 hin
  obtain ⟨hok, hout⟩ := (h.src_ok i).leaves hk (h.normal_of_inService hk)
  have hkept : ((s.tgt k).stack.filter fun e => decide (e.1 ≠ i)).Sublist (s.tgt k).stack := List.filter_sublist
  unfold completeSource
  rw [Source.leaveService_eq]
  refine h.moves ⟨hok, ⟨hkept.length_le.trans (h.stackShort k), (h.rising k).sublist hkept,
    (h.stackOnce k).sublist (hkept.map _), h.urgentShort k, h.urgentOnce k⟩, rfl, ?_, ?_, ?_, ?_, ?_, ?_⟩
  · refine iff_of_false (fun hmem => ?_) (Source.out_of_service (x := { s.src i with state := _ }) hout k).1
    obtain ⟨e, he, rfl⟩ := List.mem_map.1 hmem
    simpa using (List.mem_filter.1 he).2
  · exact iff_of_false ((h.only_there hin).2 k) (Source.out_of_service (x := { s.src i with state := _ }) hout k).2
  · intro j hj
    refine ⟨⟨fun hmem => (hkept.map _).subset hmem, fun hmem => ?_⟩, Iff.rfl⟩
    obtain ⟨e, he, rfl⟩ := List.mem_map.1 hmem
    exact List.mem_map_of_mem (List.mem_filter.2 ⟨he, by simpa using hj⟩)
  · exact fun e he => .inl (hkept.subset he)
  · intro j hj
    obtain ⟨hx, hq⟩ := Source.out_of_service (x := { s.src i with state := (s.src i).left }) hout j
    refine ⟨⟨hx, fun hs => (h.only_there hin).1 j hj ((h.inStack j i).2 hs)⟩, hq, fun hs => ?_⟩
    exact (h.only_there hin).2 j ((h.inUrgent j i).2 hs)
  · intro hr
    rw [(h.restartEmpty k hr).1] at hin
    cases hin

/-! ### The beginning of a restart (R77) -/

theorem EventInv.restartBegun {s : State} (h : EventInv s) (k : TargetId) (st : RunState) (cause : Cause) :
    EventInv (s.restartBegun k st cause) := by
  have htgt := s.restartBegun_tgt k st cause
  have hsrc := s.restartBegun_src k st cause
  have hentry : ∀ i, ((s.restartBegun k st cause).src i).entry = (s.src i).entry := by
    intro i; rw [hsrc]; split_ifs <;> rfl
  have hcleared : ∀ i, (i ∈ (s.tgt k).urgent ∨ i ∈ (s.tgt k).stack.map (·.1)) →
      (((s.restartBegun k st cause).src i).state = .idle ∨ ((s.restartBegun k st cause).src i).state = .pending) ∧
        ((s.restartBegun k st cause).src i).Ok := by
    intro i hi
    rw [hsrc]
    split_ifs with hu hs
    · exact ⟨.inl rfl, ⟨nofun, fun _ => .inl rfl, fun _ => ⟨nofun, nofun⟩⟩⟩
    · have hk := (h.inStack k i).1 hs
      obtain ⟨hok, hout⟩ := (h.src_ok i).leaves hk (h.normal_of_inService hk)
      exact ⟨hout, hok⟩
    · exact absurd hi (by simp only [hu, hs, or_self, not_false_iff])
  have hkept : ∀ i, i ∉ (s.tgt k).urgent → i ∉ (s.tgt k).stack.map (·.1) →
      (s.restartBegun k st cause).src i = s.src i := by
    intro i hu hs
    rw [hsrc, if_neg hu, if_neg hs]
  have helse : ∀ i, (i ∈ (s.tgt k).urgent ∨ i ∈ (s.tgt k).stack.map (·.1)) → ∀ j ≠ k,
      i ∉ (s.tgt j).stack.map (·.1) ∧ i ∉ (s.tgt j).urgent := by
    rintro i (hu | hs) j hj
    · have hq := (h.inUrgent k i).1 hu
      refine ⟨fun hin => (h.only_there hin).2 k hu, fun hin => hj ?_⟩
      exact SourceState.queued.inj (((h.inUrgent j i).1 hin).symm.trans hq)
    · exact ⟨(h.only_there hs).1 j hj, (h.only_there hs).2 j⟩
  have hok : ∀ i, ((s.restartBegun k st cause).src i).Ok := by
    intro i
    by_cases hi : i ∈ (s.tgt k).urgent ∨ i ∈ (s.tgt k).stack.map (·.1)
    · exact (hcleared i hi).2
    · rw [hkept i (fun hu => hi (.inl hu)) fun hs => hi (.inr hs)]
      exact h.src_ok i
  have htok : ∀ j, ((s.restartBegun k st cause).tgt j).Ok := by
    intro j; rw [htgt]; split
    · exact ⟨Nat.zero_le _, .nil, .nil, Nat.zero_le _, .nil⟩
    · exact h.tgt_ok j
  refine {
    stackShort := fun j => (htok j).stackShort
    rising := fun j => (htok j).rising
    stackOnce := fun j => (htok j).stackOnce
    inStack := ?_
    levels := ?_
    urgentShort := fun j => (htok j).urgentShort
    urgentOnce := fun j => (htok j).urgentOnce
    inUrgent := ?_
    queuedUrgent := fun j => (hok j).queuedUrgent
    urgentStates := fun j => (hok j).urgentStates
    disabledQuiet := fun j => (hok j).disabledQuiet
    restartEmpty := ?_ }
  · intro j i
    rw [htgt]
    by_cases hi : i ∈ (s.tgt k).urgent ∨ i ∈ (s.tgt k).stack.map (·.1)
    · refine iff_of_false ?_ (Source.out_of_service (hcleared i hi).1 j).1
      split
      · exact List.not_mem_nil
      · next hkj => exact (helse i hi j (Ne.symm hkj)).1
    · have hi := not_or.1 hi
      rw [hkept i hi.1 hi.2]
      split
      · next hkj =>
        subst hkj
        exact iff_of_false List.not_mem_nil fun hs => hi.2 ((h.inStack k i).2 hs)
      · exact h.inStack j i
  · intro j e he
    rw [hentry]
    rw [htgt] at he
    split at he
    · cases he
    · exact h.levels j e he
  · intro j i
    rw [htgt]
    by_cases hi : i ∈ (s.tgt k).urgent ∨ i ∈ (s.tgt k).stack.map (·.1)
    · refine iff_of_false ?_ (Source.out_of_service (hcleared i hi).1 j).2
      split
      · exact List.not_mem_nil
      · next hkj => exact (helse i hi j (Ne.symm hkj)).2
    · have hi := not_or.1 hi
      rw [hkept i hi.1 hi.2]
      split
      · next hkj =>
        subst hkj
        exact iff_of_false List.not_mem_nil fun hs => hi.1 ((h.inUrgent k i).2 hs)
      · exact h.inUrgent j i
  · intro j hj
    rw [htgt]
    split
    · exact ⟨rfl, rfl⟩
    · next hkj =>
      rw [State.restartBegun_restart, if_neg hkj] at hj
      exact h.restartEmpty j hj

/-! ### The end of a step (R46, R47, R51, R52, R55) -/

theorem Source.normalEdge_samePlace (x : Source) : x.SamePlace x.normalEdge := by
  refine ⟨fun k => ?_, fun k => ?_, fun k _ => by rw [Source.normalEdge_entry]⟩
  · unfold Source.normalEdge Source.inService
    split <;> next hx => simp [Source.merged, hx]
  · unfold Source.normalEdge
    split <;> next hx => simp [Source.merged, hx]

/-- An enabled NORMAL source may be in any state but QUEUED. -/
theorem Source.ok_of_enabled_normal {x : Source} (he : x.entry.enable = true) (hc : x.entry.cls = .normal)
    (hq : ∀ k, x.state ≠ .queued k) : x.Ok := by
  refine ⟨fun k hk => absurd hk (hq k), fun hu => ?_, fun hd => ?_⟩
  · cases hc.symm.trans hu
  · cases he.symm.trans hd

/-- A NORMAL source is not QUEUED. -/
theorem Source.Ok.not_queued {x : Source} (h : x.Ok) (hc : x.entry.cls = .normal) (k : TargetId) :
    x.state ≠ .queued k := by
  intro hq
  cases hc.symm.trans (h.queuedUrgent k hq).1

theorem Source.Ok.normalEdge {x : Source} (h : x.Ok) (he : x.entry.enable = true) (hc : x.entry.cls = .normal) :
    x.normalEdge.Ok := by
  refine Source.ok_of_enabled_normal ?_ ?_ fun k hk => ?_
  · rw [Source.normalEdge_entry, he]
  · rw [Source.normalEdge_entry, hc]
  · exact h.not_queued hc k ((x.normalEdge_samePlace.queued k).1 hk)

theorem Source.followInput_samePlace (x : Source) : x.SamePlace x.followInput := by
  have hplace : ∀ st, st = x.followInput.state → x.followInput.state = x.state ∨
      ((x.state = .idle ∨ x.state = .pending) ∧ (x.followInput.state = .idle ∨ x.followInput.state = .pending)) := by
    rintro _ -
    unfold Source.followInput
    split
    · split <;> next hx _ => simp [hx]
    · exact .inl rfl
  rcases hplace _ rfl with hsame | ⟨hx, hf⟩
  · exact Source.samePlace_of_same hsame (Source.followInput_entry x)
  · exact ⟨fun k => iff_of_false (Source.out_of_service hf k).1 (Source.out_of_service hx k).1,
      fun k => iff_of_false (Source.out_of_service hf k).2 (Source.out_of_service hx k).2,
      fun k hk => absurd hk (Source.out_of_service hx k).1⟩

theorem Source.Ok.followInput {x : Source} (h : x.Ok) : x.followInput.Ok := by
  by_cases hf : x.entry.enable ∧ x.entry.cls = .normal ∧ x.entry.trigger = .level
  · obtain ⟨he, hc, -⟩ := hf
    refine Source.ok_of_enabled_normal ?_ ?_ fun k hk => ?_
    · rw [Source.followInput_entry, he]
    · rw [Source.followInput_entry, hc]
    · exact h.not_queued hc k ((x.followInput_samePlace.queued k).1 hk)
  · rw [Source.followInput, if_neg hf]
    exact h

theorem EventInv.admitUrgent {s : State} (h : EventInv s) {i : SourceId} (hi : (s.src i).state = .idle)
    (hc : (s.src i).entry.cls = .urgent) : EventInv (admitUrgent s i) := by
  unfold Machine.admitUrgent
  dsimp only
  split
  · next hroom =>
    obtain ⟨hroom, hrun⟩ := hroom
    obtain ⟨hstack, hurgent⟩ := h.notMem_of_out (.inl hi) (s.src i).entry.fixed
    refine h.moves ⟨⟨fun k hk => ⟨hc, SourceState.queued.inj hk⟩, fun _ => .inr ⟨_, rfl⟩, fun _ => ⟨nofun, nofun⟩⟩,
      ⟨h.stackShort _, h.rising _, h.stackOnce _, ?_, ?_⟩, rfl, ?_, ?_, ?_, fun e he => .inl he, ?_, ?_⟩
    · simpa using hroom
    · exact List.nodup_append.2 ⟨h.urgentOnce _, List.nodup_singleton _, fun a ha b hb hab => by
        obtain rfl : b = i := by simpa using hb
        exact hurgent (hab ▸ ha)⟩
    · exact iff_of_false hstack (by simp [Source.inService])
    · simp
    · intro j hj
      simp [hj]
    · intro j hj
      exact ⟨⟨by simp [Source.inService], (Source.out_of_service (.inl hi) j).1⟩,
        fun hq => hj (SourceState.queued.inj hq).symm, (Source.out_of_service (.inl hi) j).2⟩
    · exact fun hr => absurd ((State.running_iff s _).1 hrun) hr
  · refine h.congr (fun _ => ⟨rfl, rfl⟩) (fun k => ?_) fun _ hr => hr
    rw [State.tgt_setTgt]
    split
    · next hk => subst hk; exact ⟨rfl, rfl⟩
    · exact ⟨rfl, rfl⟩

theorem EventInv.applyEdge {s : State} (h : EventInv s) (i : SourceId) : EventInv (applyEdge s i) := by
  unfold Machine.applyEdge
  dsimp only
  split
  · exact h
  · next he =>
    have he : (s.src i).entry.enable = true := by simpa using he
    split
    · exact h
    · next hc _ => exact h.setSrc i (Source.normalEdge_samePlace _) ((h.src_ok i).normalEdge he hc)
    · next hc =>
      unfold urgentEdge
      split
      · next hi => exact h.admitUrgent hi hc
      · exact h.setSrc i (Source.samePlace_of_same rfl rfl) ((h.src_ok i).of_same rfl rfl)
      · exact h

theorem EventInv.applyEdges {s : State} (h : EventInv s) (n : Nat) (i : SourceId) : EventInv (applyEdges n s i) := by
  induction n generalizing s with
  | zero => exact h
  | succ n ih => exact ih (h.applyEdge i)

theorem EventInv.activate {s : State} (h : EventInv s) (i : SourceId) : EventInv (activate s i) := by
  have hinput := h.setSrc i (x := { s.src i with input := s.inputOf i }) (Source.samePlace_of_same rfl rfl)
    ((h.src_ok i).of_same rfl rfl)
  have hedges := hinput.applyEdges (activations s i) i
  exact hedges.setSrc i (Source.followInput_samePlace _) (hedges.src_ok i).followInput

theorem EventInv.foldl_activate {s : State} (h : EventInv s) (l : List SourceId) : EventInv (l.foldl Machine.activate s) := by
  induction l generalizing s with
  | nil => exact h
  | cons i l ih => exact ih (h.activate i)

theorem activateAll_restarts (s : State) : (activateAll s).restarts = s.restarts := by
  rw [(onlyActivated_activateAll s).rest]

theorem EventInv.endOfStep {s : State} (h : EventInv s) : EventInv (endOfStep s) := by
  refine (h.foldl_activate allSources).congr (fun i => ?_) (fun k => ?_) fun k hr => ?_
  · rw [endOfStep_src]; exact ⟨rfl, rfl⟩
  · rw [endOfStep_tgt]; exact ⟨rfl, rfl⟩
  · rw [endOfStep_restart]
    rw [← State.restart_congr (activateAll_restarts s)]
    exact hr

/-! ### Every step -/

theorem eventInv_clearAll (s : State) : EventInv (clearAll s) := by
  refine EventInv.of_quiet (fun i => by rw [clearAll_src]) fun k => ?_
  have htargets : (clearAll s).targets = State.reset.targets := by rw [clearAll_eq]
  rw [State.tgt_congr htargets]
  fin_cases k <;> exact ⟨rfl, rfl⟩

theorem EventInv.change {c : Instr} {s t : State} (hc : Change c s t) (h : EventInv s) : EventInv t := by
  cases hc with
  | line l => cases l <;> exact h.congr (fun _ => ⟨rfl, rfl⟩) (fun _ => ⟨rfl, rfl⟩) fun _ hr => hr
  | target k x hstack hurgent =>
    refine h.congr (fun _ => ⟨rfl, rfl⟩) (fun j => ?_) fun _ hr => hr
    rw [State.tgt_setTgt]
    split
    · next hk => subst hk; exact ⟨hstack, hurgent⟩
    · exact ⟨rfl, rfl⟩
  | source i x hentry hstate =>
    exact h.setSrc i (Source.samePlace_of_same hstate hentry) ((h.src_ok i).of_same hstate hentry)
  | entry i e hacc => exact h.setSrc i (Source.writeEntry_samePlace hacc) ((h.src_ok i).writeEntry hacc)
  | restart k x hrun =>
    refine h.congr (fun _ => ⟨rfl, rfl⟩) (fun _ => ⟨rfl, rfl⟩) fun j hr => ?_
    rw [State.restart_setRestart]
    split
    · next hk => subst hk; exact hrun hr
    · exact hr
  | restartEntry k st cause => rw [enterRestart_eq]; exact h.restartBegun k st cause
  | take k i hoffer => exact h.take hoffer
  | takeUrgent k => exact h.takeUrgent k
  | complete k i hin => exact h.complete hin
  | clearAll => exact eventInv_clearAll s
  | endOfStep => exact h.endOfStep
  | _ => exact h.congr (fun _ => ⟨rfl, rfl⟩) (fun _ => ⟨rfl, rfl⟩) fun _ hr => hr

theorem src_reset_state (i : SourceId) : (State.reset.src i).state = .idle := by
  have hall : ∀ j : SourceId, (State.reset.src j).state = .idle := by decide
  exact hall i

theorem eventInv_reset : EventInv State.reset :=
  EventInv.of_quiet src_reset_state fun k => by fin_cases k <;> exact ⟨rfl, rfl⟩

theorem kept_eventInv : Kept EventInv where
  change hc h := h.change hc
  queues _ _ _ _ h := h.congr (fun _ => ⟨rfl, rfl⟩) (fun _ => ⟨rfl, rfl⟩) fun _ hr => hr
  reset := eventInv_reset

/-- Settles O58. -/
theorem stepsKeepSourcesAndTargetsConsistent : Obligations.StepsKeepSourcesAndTargetsConsistent :=
  fun _ _ h he => kept_eventInv.step he h

end Sys2Proof.Machine
end


section
/-! PROOFS. What the end of every step leaves (R151): inputs, outputs and SVC_ALERT as the state says, and a second end of
step that changes nothing. Settles O8 and O59. -/

namespace Sys2Proof.Machine

open Sys2Proof

/-! ### The end of a step settles the hub -/

@[simp] theorem endOfStep_inputOf (u : State) (i : SourceId) : (endOfStep u).inputOf i = u.inputOf i := by
  simp only [State.inputOf, State.lanesFault, endOfStep_lane, endOfStep_lineA, endOfStep_lineB, endOfStep_bell,
    endOfStep_host, endOfStep_xrSample]

/-- A followed source that is IDLE has a low input, one that is PENDING a high one (R47). -/
theorem Source.followInput_level {x : Source} (he : x.entry.enable = true) (hc : x.entry.cls = .normal)
    (ht : x.entry.trigger = .level) :
    (x.followInput.state = .idle → x.input = false) ∧ (x.followInput.state = .pending → x.input = true) := by
  rw [Source.followInput, if_pos ⟨he, hc, ht⟩]
  split
  · next hi => simp [hi]
  · next hi => simp [hi]
  · next hidle hpending =>
    cases hi : x.input with
    | true => exact ⟨fun hs => absurd hi (hidle hs), fun _ => rfl⟩
    | false => exact ⟨fun _ => rfl, fun hs => absurd hi (hpending hs)⟩

theorem settled_endOfStep (u : State) : Settled (endOfStep u) where
  inputs i := by rw [endOfStep_input, endOfStep_inputOf]
  levels i he hc ht := by
    rw [endOfStep_entry] at he hc ht
    rw [endOfStep_input, endOfStep_src_normal u i hc, if_neg (by simp [ht])]
    exact Source.followInput_level (x := { u.src i with input := u.inputOf i }) he hc ht
  outputs t := endOfStep_out u t
  alert := endOfStep_alert u
  noEdges := endOfStep_raised u

/-! ### What leaves a settled hub settled -/

section Settled
variable {s t : State} (h : Settled s)
include h

theorem Settled.congr (hsrc : t.sources = s.sources) (hin : ∀ i, t.inputOf i = s.inputOf i) (houts : t.outs = s.outs)
    (hout : ∀ k, t.outputOf k = s.outputOf k) (halert : t.svc.alert = s.svc.alert)
    (hflags : t.alertOutput = s.alertOutput) (hraised : t.raised = []) : Settled t where
  inputs i := by rw [State.src_congr hsrc, hin]; exact h.inputs i
  levels i := by rw [State.src_congr hsrc]; exact h.levels i
  outputs k := by rw [hout, ← h.outputs k, State.out, State.out]; simp only [houts]
  alert := by rw [halert, hflags]; exact h.alert
  noEdges := hraised

/-- The clock, the pins, the queues, RESET_N's level and the bus take no part. -/
theorem Settled.clock (now : Nat) (low : Bool) (pins : Pins) (sched : Sched) (pending : List Instr) (coming : List Pins) :
    Settled { s with
      now := now, inReset := low, pins := pins, sched := sched, pending := pending, coming := coming, raised := [] } :=
  h.congr rfl (fun _ => rfl) rfl (fun _ => rfl) rfl rfl rfl

theorem Settled.host {p : HostPort} (hf : p.fault = s.host.fault) : Settled { s with host := p } := by
  refine h.congr rfl (fun i => ?_) rfl (fun _ => rfl) rfl rfl h.noEdges
  unfold State.inputOf
  dsimp only
  rw [hf]
  rfl

/-- The frame parser takes no part. -/
theorem Settled.parser (frame : Option Frame) (wait sel clk : Bool) (aborts : Nat) :
    Settled { s with svc := { s.svc with
      frame := frame, waitRelease := wait, sel := sel, clk := clk, aborts := aborts } } :=
  h.congr rfl (fun _ => rfl) rfl (fun _ => rfl) rfl rfl h.noEdges

theorem Settled.look : Settled s.look := by
  rw [State.look_eq]
  exact h.parser ..

theorem Settled.arrive (m : Moment) : Settled (s.arrive m) := by
  have hlooked : Settled (if m.gap = 0 then s else s.look) := by split; exacts [h, h.look]
  have hclock := hlooked.clock (s.now + m.gap) s.inReset m.pins (if m.gap = 0 then s.sched else s.sched.newInstant)
    s.pending s.coming
  have hhost := hclock.host (p := s.host.seeReq m.pins.hreq) (by split <;> simp)
  refine (congrArg Settled ?_).mp hhost
  unfold State.arrive
  split <;> rfl

theorem Settled.enter (m : Moment) : Settled (s.enter m) := (h.arrive m).look

theorem Settled.takeStep (m : Moment) (action : State → State) : Settled (takeStep m action s) := by
  unfold Machine.takeStep
  split
  · exact h.congr rfl (fun _ => rfl) rfl (fun _ => rfl) rfl rfl h.noEdges
  · exact settled_endOfStep _

theorem Settled.takeEarlyStep (m : Moment) (action : State → State) : Settled (takeEarlyStep m action s) := by
  unfold Machine.takeEarlyStep
  split
  · exact h.congr rfl (fun _ => rfl) rfl (fun _ => rfl) rfl rfl h.noEdges
  · exact settled_endOfStep _

theorem Settled.readCommand (m : Moment) (code : Byte) (arg : BitVec 16) (act : State → Reply) :
    Settled (readCommand m code arg act s) := by
  unfold Machine.readCommand
  dsimp only
  split_ifs
  · exact h.congr rfl (fun _ => rfl) rfl (fun _ => rfl) rfl rfl h.noEdges
  · exact settled_endOfStep _
  · exact Settled.look ((settled_endOfStep _).parser ..)

theorem Settled.writeCommand (m : Moment) (code : Byte) (arg : BitVec 16) (data : Word) (act : State → Reply) :
    Settled (writeCommand m code arg data act s) := by
  unfold Machine.writeCommand
  dsimp only
  split_ifs
  · exact h.congr rfl (fun _ => rfl) rfl (fun _ => rfl) rfl rfl h.noEdges
  · exact settled_endOfStep _
  · exact Settled.look ((settled_endOfStep _).parser ..)

/-- The receiver's condition takes no part. -/
theorem Settled.setReceiver (l : LineId) (r : Receiver) : Settled (s.setLine l { s.line l with rx := r }) := by
  cases l <;> exact h.congr rfl (fun _ => rfl) rfl (fun _ => rfl) rfl rfl h.noEdges

theorem Settled.advanceTo (n : Nat) : Settled (s.advanceTo n) := by
  unfold State.advanceTo
  split
  · exact h.congr rfl (fun _ => rfl) rfl (fun _ => rfl) rfl rfl h.noEdges
  · exact h

theorem Settled.sampleReceiver (l : LineId) : Settled (sampleReceiver s l) := by
  unfold Machine.sampleReceiver
  dsimp only
  split
  · have hset := (h.advanceTo ((s.line l).sampleInstant ((s.line l).nextSample s.now))).setReceiver l
    rw [State.line_advanceTo] at hset
    exact hset _
  · exact h

theorem Settled.passTime : Settled (passTime s) := by
  have hclock := h.clock (s.now + 1) s.inReset (s.coming.headD s.pins) s.sched.newInstant s.pending s.coming.tail
  refine (hclock.host (p := s.host.seeReq (s.coming.headD s.pins).hreq) (by simp)).congr rfl (fun _ => rfl) rfl
    (fun _ => rfl) rfl rfl h.noEdges

end Settled

theorem settled_reset : Settled State.reset where
  inputs := by decide
  levels := by decide
  outputs := by decide
  alert := by decide
  noEdges := rfl

theorem settled_powerOn (s : State) (m : Moment) (low : Bool) : Settled (s.powerOn m low) :=
  settled_reset.clock 0 low m.pins Sched.powerOn s.pending s.coming

theorem settled_exec {c : Instr} {s t : State} (h : Settled s) (he : exec c s = .next t) : Settled t := by
  cases c with
  | resetNAssert m => cases he; exact settled_powerOn s m true
  | resetNRelease m =>
    cases he
    unfold releaseReset
    split
    · exact (settled_powerOn s m false).parser ..
    · exact h
  | status | read | pop | snapshot => cases he; exact h.readCommand ..
  | write | lineControlStart | lineControlStop | lineControlClear | lineSerr | push | seizeLine | yieldLine | ring
  | restart | releaseTarget | hold | alertClear | clearAll | badCommand => cases he; exact h.writeCommand ..
  | receiveMove m l =>
    change execReceiveMove m l s = .next t at he
    unfold execReceiveMove at he
    split_ifs at he
    cases he
    exact h.takeStep ..
  | transmitMove m l =>
    change execTransmitMove m l s = .next t at he
    unfold execTransmitMove at he
    split_ifs at he
    cases he
    exact h.takeStep ..
  | receiverSample m l =>
    cases he
    split_ifs
    · exact h.congr rfl (fun _ => rfl) rfl (fun _ => rfl) rfl rfl h.noEdges
    · exact (h.enter m).sampleReceiver l
  | heldRequestCompletion | tickStep | expiry | pulseEnd | buttonPress | buttonSample => cases he; exact h.takeEarlyStep ..
  | _ => cases he; exact h.takeStep ..

theorem settled_idle {s t : State} (h : Settled s) (he : idle s = .next t) : Settled t := by
  unfold idle at he
  split at he
  · cases he; exact h
  · split at he
    · exact settled_exec h he
    · split at he
      · exact settled_exec h.look he
      · cases he; exact h.look.passTime

theorem settled_step {s t : State} (h : Settled s) (he : step s = .next t) : Settled t := by
  unfold step at he
  split at he
  · next c rest _ =>
    exact settled_exec (h.congr (t := { s with pending := rest }) rfl (fun _ => rfl) rfl (fun _ => rfl) rfl rfl h.noEdges) he
  · exact settled_idle h he

/-- Settles O59. -/
theorem everyStepLeavesTheHubSettled : Obligations.EveryStepLeavesTheHubSettled := fun _ _ h he => settled_step h he

/-! ### A second end of step -/

/-- On a settled hub no source is activated (R55). -/
theorem Settled.activations_eq {s : State} (h : Settled s) (i : SourceId) : activations s i = 0 := by
  unfold activations
  simp [h.inputs i, h.noEdges]

/-- A settled source has followed its input already (R47). -/
theorem Settled.followInput_eq {s : State} (h : Settled s) (i : SourceId) : (s.src i).followInput = s.src i := by
  unfold Source.followInput
  split
  · next hf =>
    obtain ⟨he, hc, ht⟩ := hf
    obtain ⟨hidle, hpending⟩ := h.levels i he hc ht
    split
    · next hs hi => rw [hidle hs] at hi; cases hi
    · next hs hi => rw [hpending hs] at hi; cases hi
    · rfl
  · rfl

theorem Settled.activate_eq {s : State} (h : Settled s) (i : SourceId) : activate s i = s := by
  have hsame : s.setSrc i (s.src i) = s := by simp [State.setSrc, State.src]
  have hinput : ({ s.src i with input := s.inputOf i } : Source) = s.src i := by rw [← h.inputs i]
  unfold activate
  dsimp only
  rw [h.activations_eq, hinput, hsame]
  show s.setSrc i (s.src i).followInput = s
  rw [h.followInput_eq, hsame]

theorem Settled.activateAll_eq {s : State} (h : Settled s) : activateAll s = s := by
  have hfold : ∀ l : List SourceId, l.foldl activate s = s := by
    intro l
    induction l with
    | nil => rfl
    | cons i l ih => rw [List.foldl_cons, h.activate_eq, ih]
  exact hfold allSources

theorem Settled.setOutputs_eq {s : State} (h : Settled s) : s.setOutputs = s := by
  have houts : s.setOutputs.outs = s.outs := by
    refine Vector.ext fun k hk => ?_
    have hset := State.setOutputs_out s ⟨k, hk⟩
    exact hset.trans (h.outputs ⟨k, hk⟩).symm
  unfold State.setOutputs at houts ⊢
  dsimp only at houts
  rw [houts]

/-- Settles O8. -/
theorem endOfAnUnchangedStepChangesNothing : Obligations.EndOfAnUnchangedStepChangesNothing := by
  intro s h
  have hedges : ({ s with raised := [] } : State) = s := by rw [← h.noEdges]
  unfold endOfStep
  dsimp only
  rw [h.activateAll_eq, hedges, h.setOutputs_eq, ← h.alert]

end Sys2Proof.Machine
end


section
/-! PROOFS. Which commands reach the settings that have commands of their own, and that no command touches the model's
queues. Settles O1 and O60. -/

namespace Sys2Proof.Machine

open Sys2Proof

/-- A part of the state that each change keeps, or that the command may reach. -/
theorem Reach.field {α : Type} {c : Instr} {s t : State} (f : State → α) {g : Prop}
    (hstep : ∀ {u v : State}, Change c u v → f v = f u ∨ g) (h : Reach c s t) : f t = f s ∨ g := by
  induction h with
  | refl => exact .inl rfl
  | tail _ hc ih =>
    rcases hstep hc with hkeep | hg
    · exact ih.imp_left hkeep.trans
    · exact .inr hg

section Fields
variable {c : Instr} {u v : State} (h : Change c u v)
include h

theorem Change.pending_coming : v.pending = u.pending ∧ v.coming = u.coming := by
  cases h with
  | line l => cases l <;> exact ⟨rfl, rfl⟩
  | restartEntry => exact ⟨(eventsOnly_restartEntry ..).pending, (eventsOnly_restartEntry ..).coming⟩
  | takeUrgent => exact ⟨(eventsOnly_takeUrgent ..).pending, (eventsOnly_takeUrgent ..).coming⟩
  | endOfStep => exact ⟨endOfStep_pending u, endOfStep_coming u⟩
  | clearAll => rw [clearAll_eq]; exact ⟨rfl, rfl⟩
  | _ => exact ⟨rfl, rfl⟩

/-- A taking or completing target keeps its hold; it counts a take only by TGT_TAKE. -/
theorem Change.hold_takes (hclear : ¬ c.clears) (k : TargetId) :
    ((v.tgt k).hold = (u.tgt k).hold ∨ c.changesHold k) ∧ ((v.tgt k).takes = (u.tgt k).takes ∨ c.changesTakes k) := by
  have hset : ∀ (w : State) (j : TargetId) (x : Target), w.targets = u.targets →
      (x.hold = (u.tgt j).hold ∨ c.changesHold j) → (x.takes = (u.tgt j).takes ∨ c.changesTakes j) →
      (((w.setTgt j x).tgt k).hold = (u.tgt k).hold ∨ c.changesHold k) ∧
        (((w.setTgt j x).tgt k).takes = (u.tgt k).takes ∨ c.changesTakes k) := by
    intro w j x hw hhold htakes
    rw [State.tgt_setTgt]
    split
    · next hj => subst hj; exact ⟨hhold, htakes⟩
    · rw [State.tgt_congr hw]; exact ⟨.inl rfl, .inl rfl⟩
  cases h with
  | line l => cases l <;> exact ⟨.inl rfl, .inl rfl⟩
  | target j x _ _ htakes hhold => exact hset u j x rfl hhold (.inl htakes)
  | take j i _ hc => exact hset (u.setSrcState i _) j _ rfl (.inl rfl) (.inr hc)
  | takeUrgent j =>
    unfold Machine.takeUrgent
    split
    · exact ⟨.inl rfl, .inl rfl⟩
    · next i _ _ => exact hset (u.setSrcState i _) j _ rfl (.inl rfl) (.inl rfl)
  | complete j i => exact hset (u.setSrc i _) j _ rfl (.inl rfl) (.inl rfl)
  | restartEntry j st cause =>
    rw [enterRestart_eq, State.restartBegun_tgt]
    split
    · next hj => subst hj; exact ⟨.inl rfl, .inl rfl⟩
    · exact ⟨.inl rfl, .inl rfl⟩
  | endOfStep => rw [endOfStep_tgt_eq]; exact ⟨.inl rfl, .inl rfl⟩
  | clearAll hc => exact absurd hc hclear
  | _ => exact ⟨.inl rfl, .inl rfl⟩

theorem Change.owner_lock (hclear : ¬ c.clears) (l : LineId) :
    ((v.line l).owner = (u.line l).owner ∨ c.changesOwner l) ∧ ((v.line l).lock = (u.line l).lock ∨ c.changesLock l) := by
  cases h with
  | line k x _ howner hlock =>
    rw [State.line_setLine]
    split
    · next hk => subst hk; exact ⟨howner, hlock⟩
    · exact ⟨.inl rfl, .inl rfl⟩
  | restartEntry =>
    rw [State.line_congr (eventsOnly_restartEntry ..).lineA (eventsOnly_restartEntry ..).lineB]
    exact ⟨.inl rfl, .inl rfl⟩
  | takeUrgent =>
    rw [State.line_congr (eventsOnly_takeUrgent ..).lineA (eventsOnly_takeUrgent ..).lineB]
    exact ⟨.inl rfl, .inl rfl⟩
  | endOfStep => rw [endOfStep_line]; exact ⟨.inl rfl, .inl rfl⟩
  | clearAll hc => exact absurd hc hclear
  | _ => exact ⟨.inl rfl, .inl rfl⟩

theorem Change.staging_eq : v.staging = u.staging ∨ c.changesStaging := by
  cases h with
  | staging _ _ hc => exact .inr hc
  | line l => cases l <;> exact .inl rfl
  | restartEntry => exact .inl (eventsOnly_restartEntry ..).staging
  | takeUrgent => exact .inl (eventsOnly_takeUrgent ..).staging
  | endOfStep => exact .inl (endOfStep_staging u)
  | clearAll => rw [clearAll_eq]; exact .inl rfl
  | _ => exact .inl rfl

theorem Change.snap_abortCount :
    (v.svc.snap = u.svc.snap ∨ c.takesSnapshot) ∧ (v.svc.abortCount = u.svc.abortCount ∨ c.countsAborts) := by
  cases h with
  | service _ hsnap habort => exact ⟨hsnap, habort⟩
  | line l => cases l <;> exact ⟨.inl rfl, .inl rfl⟩
  | restartEntry => exact ⟨.inl (eventsOnly_restartEntry ..).snap, .inl (eventsOnly_restartEntry ..).abortCount⟩
  | takeUrgent => exact ⟨.inl (eventsOnly_takeUrgent ..).snap, .inl (eventsOnly_takeUrgent ..).abortCount⟩
  | endOfStep => exact ⟨.inl (endOfStep_snap u), .inl (endOfStep_abortCount u)⟩
  | clearAll => rw [clearAll_eq]; exact ⟨.inl rfl, .inl rfl⟩
  | _ => exact ⟨.inl rfl, .inl rfl⟩

end Fields

/-- No command touches the queue of commands or the coming levels. -/
theorem exec_queues {c : Instr} {s t : State} (he : exec c s = .next t) : t.pending = s.pending ∧ t.coming = s.coming := by
  cases hc : c.isReset with
  | false =>
    have hreach := exec_reaches he hc
    have hp := hreach.field (g := False) State.pending fun h => .inl h.pending_coming.1
    have hq := hreach.field (g := False) State.coming fun h => .inl h.pending_coming.2
    exact ⟨hp.resolve_right id, hq.resolve_right id⟩
  | true =>
    cases c with
    | resetNAssert => cases he; exact ⟨rfl, rfl⟩
    | resetNRelease =>
      cases he
      unfold releaseReset
      split <;> exact ⟨rfl, rfl⟩
    | _ => cases hc

/-- Settles O60. -/
theorem settingsChangeOnlyByTheirCommands : Obligations.SettingsChangeOnlyByTheirCommands := by
  intro c s t he hr hservice hhost
  have hclear : ¬ c.clears := by
    rintro (⟨m, arg, data, hc⟩ | ⟨data, hc⟩)
    · exact hservice m arg data hc
    · exact hhost data hc
  have h := exec_reaches he hr
  refine ⟨fun k hne => ?_, fun l hne => ?_, fun l hne => ?_, fun hne => ?_, fun k hne => ?_, fun hne => ?_, fun hne => ?_⟩
  · exact (h.field (fun u => (u.tgt k).hold) fun hc => (hc.hold_takes hclear k).1).resolve_left hne
  · exact (h.field (fun u => (u.line l).owner) fun hc => (hc.owner_lock hclear l).1).resolve_left hne
  · exact (h.field (fun u => (u.line l).lock) fun hc => (hc.owner_lock hclear l).2).resolve_left hne
  · exact (h.field State.staging fun hc => hc.staging_eq).resolve_left hne
  · exact (h.field (fun u => (u.tgt k).takes) fun hc => (hc.hold_takes hclear k).2).resolve_left hne
  · exact (h.field (fun u => u.svc.snap) fun hc => hc.snap_abortCount.1).resolve_left hne
  · exact (h.field (fun u => u.svc.abortCount) fun hc => hc.snap_abortCount.2).resolve_left hne

/-- Settles O1. -/
theorem stepRunsTheFrontCommand : Obligations.StepRunsTheFrontCommand := by
  intro c rest s h
  unfold step
  rw [h]

end Sys2Proof.Machine
end


section
/-! PROOFS. RESET_N (R155): the values of its column, what a low RESET_N holds back, its release, and what every item reads
right after it. Settles O3, O4, O5 and O6. -/

namespace Sys2Proof.Machine

open Sys2Proof

/-! ### The RESET_N column -/

theorem powerOnColumn_reset : PowerOnColumn State.reset where
  host := ⟨rfl, rfl, rfl, rfl, rfl, rfl⟩
  service := ⟨rfl, rfl, rfl, rfl, rfl, rfl, rfl, rfl⟩
  doorbells := by decide
  sources := by decide
  samples := rfl
  targets := by decide
  outputs := by decide
  lines l := by cases l <;> exact ⟨rfl, rfl⟩
  lanes := by decide
  staging _ := rfl
  tick := rfl
  timers := by decide
  restarts := by decide
  unit := rfl
  edges := rfl

/-- The column does not speak of RESET_N's level, the pins, the queues, or the levels of the service port's pins. -/
theorem PowerOnColumn.congr {s : State} (h : PowerOnColumn s) (low : Bool) (pins : Pins) (pending : List Instr)
    (coming : List Pins) (wait sel clk : Bool) :
    PowerOnColumn { s with
      inReset := low, pins := pins, pending := pending, coming := coming
      svc := { s.svc with waitRelease := wait, sel := sel, clk := clk } } :=
  ⟨h.host, h.service, h.doorbells, h.sources, h.samples, h.targets, h.outputs, fun l => by cases l; exacts [h.lines .a, h.lines .b],
    h.lanes, h.staging, h.tick, h.timers, h.restarts, h.unit, h.edges⟩

theorem restart_reset (k : TargetId) : (State.reset.restart k).state = .pulse 320000 := by
  revert k
  decide

/-! ### RESET_N low -/

section Low
variable {s : State} (h : s.inReset = true)
include h

theorem readCommand_of_low (m : Moment) (code : Byte) (arg : BitVec 16) (act : State → Reply) :
    readCommand m code arg act s = { s with pins := m.pins } := if_pos h

theorem writeCommand_of_low (m : Moment) (code : Byte) (arg : BitVec 16) (data : Word) (act : State → Reply) :
    writeCommand m code arg data act s = { s with pins := m.pins } := if_pos h

/-- While RESET_N is low no step of any kind is taken: only the pins move (R155). -/
theorem exec_of_low {c : Instr} (hc : c.isReset = false) : exec c s = .next { s with pins := c.moment.pins } := by
  cases c with
  | resetNAssert | resetNRelease => cases hc
  | status | read | pop | snapshot => exact congrArg _ (readCommand_of_low h ..)
  | write | lineControlStart | lineControlStop | lineControlClear | lineSerr | push | seizeLine | yieldLine | ring
  | restart | releaseTarget | hold | alertClear | clearAll | badCommand => exact congrArg _ (writeCommand_of_low h ..)
  | heldRequestCompletion | tickStep | expiry | pulseEnd | buttonPress | buttonSample =>
    exact congrArg _ (takeEarlyStep_of_low h ..)
  | receiveMove m l => exact (if_neg (by simp [h])).trans (congrArg _ (takeStep_of_low h ..))
  | transmitMove m l => exact (if_neg (by simp [h])).trans (congrArg _ (takeStep_of_low h ..))
  | receiverSample m l => exact congrArg _ (if_pos h)
  | _ => exact congrArg _ (takeStep_of_low h ..)

end Low

/-- Settles O3. -/
theorem lowResetHoldsEveryBlockAtItsPowerOnValues : Obligations.LowResetHoldsEveryBlockAtItsPowerOnValues := by
  refine ⟨fun m s => ⟨s.powerOn m true, rfl, ?_, rfl, fun _ => rfl, rfl, rfl, rfl⟩, fun c s h hc => exec_of_low h hc⟩
  exact powerOnColumn_reset.congr true m.pins s.pending s.coming false false false

/-- Settles O4. -/
theorem releasedResetBeginsThePowerOnPulses : Obligations.ReleasedResetBeginsThePowerOnPulses := by
  refine fun m s => ⟨fun h => ?_, fun h => ?_⟩
  · refine ⟨{ s.powerOn m false with svc := { ServicePort.powerOn with
      waitRelease := m.pins.svcSel, sel := m.pins.svcSel, clk := m.pins.svcClk } },
      congrArg Host.Outcome.next (if_pos h), ?_, rfl, rfl, rfl, rfl, restart_reset, Iff.rfl, rfl, rfl, rfl, rfl⟩
    exact powerOnColumn_reset.congr false m.pins s.pending s.coming m.pins.svcSel m.pins.svcSel m.pins.svcClk
  · exact congrArg Host.Outcome.next (if_neg (by simp [h]))

/-- Settles O5. -/
theorem resetStateMeetsEveryInvariant : Obligations.ResetStateMeetsEveryInvariant :=
  ⟨powerOnColumn_reset, rfl, rfl, rfl, restart_reset, kept_hostInv.reset, kept_stagingInv.reset, kept_laneInv.reset,
    kept_lineInv.reset, kept_timerInv.reset, eventInv_reset, settled_reset⟩

/-! ### The power-on column of the directory (section 11.5) -/

/-- Only LINE_OWNER and RSC_BUTTON follow the pins. -/
def followsPins : Item → Bool
  | .line _ .owner | .rsc .button => true
  | _ => false

theorem itemWord_of_pins {it : Item} (h : followsPins it = false) (s : State) (p : Pins) :
    ({ s with pins := p } : State).itemWord it = s.itemWord it := by
  cases it with
  | line l i =>
    cases i with
    | owner => cases h
    | _ => rfl
  | rsc i =>
    cases i with
    | button => cases h
    | _ => rfl
  | hub i | tgt t i | lane n i | timer n i | alert i => cases i <;> rfl
  | srcEntry | srcStatus | tickLength | snap | staging => rfl

theorem powerOnWord_of_pins {it : Item} (h : followsPins it = false) (p q : Pins) :
    powerOnWord p it = powerOnWord q it := by
  unfold powerOnWord
  split
  case h_13 | h_19 => cases h
  all_goals rfl

theorem itemWord_reset_tgt (t : TargetId) (i : TargetItem) :
    State.reset.itemWord (.tgt t i) = powerOnWord pinsAtRest (.tgt t i) := by
  cases i with
  | stack k => revert t k; decide
  | _ => revert t; decide

theorem itemWord_reset (it : Item) : State.reset.itemWord it = powerOnWord pinsAtRest it := by
  cases it with
  | srcEntry i => exact (powerOnColumn_reset.sources i).1
  | srcStatus i => revert i; decide
  | tgt t i => exact itemWord_reset_tgt t i
  | hub i | alert i => cases i <;> decide
  | line l i => cases i <;> cases l <;> decide
  | lane n i | timer n i => cases i <;> revert n <;> decide
  | tickLength => decide
  | rsc i =>
    cases i with
    | target t => revert t; decide
    | _ => decide
  | snap k => revert k; decide
  | staging k =>
    exact (by decide : place (0 : Byte) 0 ||| place (0 : Byte) 8 ||| place (0 : Byte) 16 ||| place (0 : Byte) 24 = 0)

theorem lineOwner_reset (p : Pins) (l : LineId) :
    ({ State.reset with pins := p } : State).itemWord (.line l .owner) = if p.seizePermit then 0x0000000C else 0 := by
  have hword : ∀ permit : Bool, ownerWord Line.powerOn permit = if permit then 0x0000000C else 0 := by decide
  cases l <;> exact hword p.seizePermit

theorem button_reset (p : Pins) :
    ({ State.reset with pins := p } : State).itemWord (.rsc .button) = if p.restartIn then 0x00000007 else 0x00000006 := by
  have hword : ∀ asserted : Bool, buttonWord State.reset.rsc asserted = if asserted then 0x00000007 else 0x00000006 := by
    decide
  exact hword p.restartIn

/-- Settles O6. -/
theorem everyItemReadsItsPowerOnValue : Obligations.EveryItemReadsItsPowerOnValue := by
  intro p it
  cases h : followsPins it with
  | false => rw [itemWord_of_pins h, itemWord_reset, powerOnWord_of_pins h p]
  | true =>
    unfold followsPins at h
    split at h
    · exact lineOwner_reset p _
    · exact button_reset p
    · cases h

end Sys2Proof.Machine
end


section
/-! PROOFS. The end of a step (spec/10, section 10.1), its inputs, outputs and alert flags bit by bit; NORMAL sources there
(R46, R47, R55); and XR sampling (R38). Settles O7, O23 and O25. -/

namespace Sys2Proof.Machine

open Sys2Proof

/-! ### The input of each source -/

section Inputs
variable {u : State} {i : SourceId}

theorem State.inputOf_xr (h : i.val < 16) : u.inputOf i = u.xrSample.getLsbD i.val := by
  unfold State.inputOf
  split
  case h_15 => rw [decide_eq_true h, Bool.true_and]
  all_goals omega

theorem State.inputOf_fixedEdge (h : (16 ≤ i.val ∧ i.val ≤ 19) ∨ i.val = 26 ∨ i.val = 27 ∨ i.val = 30 ∨ i.val = 31) :
    u.inputOf i = false := by
  have hhigh : ¬ i.val < 16 := by omega
  unfold State.inputOf
  split
  case h_15 => rw [decide_eq_false hhigh, Bool.false_and]
  all_goals omega

theorem State.inputOf_lane {n : LaneId} (h : i.val = 20 + n.val) : u.inputOf i = (u.lane n).readyCond := by
  obtain ⟨i, hi⟩ := i
  obtain rfl : i = 20 + n.val := h
  fin_cases n <;> rfl

theorem State.inputOf_data {l : LineId} (h : i.val = match l with | .a => 24 | .b => 28) :
    u.inputOf i = (u.line l).dataCond := by
  cases l
  · obtain rfl : i = 24 := Fin.ext h
    rfl
  · obtain rfl : i = 28 := Fin.ext h
    rfl

theorem State.inputOf_alarm {l : LineId} (h : i.val = match l with | .a => 25 | .b => 29) :
    u.inputOf i = (u.line l).alarmCond := by
  cases l
  · obtain rfl : i = 25 := Fin.ext h
    rfl
  · obtain rfl : i = 29 := Fin.ext h
    rfl

theorem State.inputOf_bell {t : TargetId} (h : i.val = 32 + t.val) : u.inputOf i = (u.bell t).unread := by
  obtain ⟨i, hi⟩ := i
  obtain rfl : i = 32 + t.val := h
  fin_cases t <;> rfl

theorem State.inputOf_fault (h : i.val = 36) : u.inputOf i = u.host.fault.occupied := by
  obtain rfl : i = 36 := Fin.ext h
  rfl

theorem State.inputOf_lanes (h : i.val = 37) : u.inputOf i = u.lanesFault := by
  obtain rfl : i = 37 := Fin.ext h
  rfl

end Inputs

/-! ### The conditions -/

/-- A word is not zero when one of its bits is set. -/
theorem BitVec.ne_zero_iff {n : Nat} (x : BitVec n) : x ≠ 0 ↔ ∃ k < n, x.getLsbD k = true := by
  constructor
  · intro h
    by_contra hno
    refine h (BitVec.eq_of_getLsbD_eq fun k hk => ?_)
    simpa using fun hset => hno ⟨k, hk, hset⟩
  · rintro ⟨k, -, hset⟩ rfl
    simp at hset

theorem Lane.readyCond_iff (x : Lane) : x.readyCond = true ↔ ∃ r ∈ x.records, r.notify = true := by
  simp [Lane.readyCond]

theorem Line.dataCond_iff (x : Line) :
    x.dataCond = true ↔ x.rxThresh.toNat ≤ x.prog.rx.length ∨
      (x.interest = true ∧ x.txThresh.toNat ≤ 32 - x.prog.tx.length) := by
  simp only [Line.dataCond, Bool.or_eq_true, Bool.and_eq_true, decide_eq_true_eq]
  rfl

theorem Line.alarmCond_iff (x : Line) :
    x.alarmCond = true ↔ ∃ k < 5, x.prog.flags.getLsbD k = true ∧ x.alarmMask.getLsbD k = true := by
  rw [Line.alarmCond, decide_eq_true_eq, BitVec.ne_zero_iff]
  simp [BitVec.getLsbD_and]

theorem Lane.faultCond_iff (x : Lane) : x.faultCond = true ↔ x.state = .halted ∨ ∃ r o, x.state = .waitRecord r o := by
  unfold Lane.faultCond
  cases x.state <;> simp

theorem State.lanesFault_iff (u : State) :
    u.lanesFault = true ↔ ∃ n, (u.lane n).state = .halted ∨ ∃ r o, (u.lane n).state = .waitRecord r o := by
  simp only [← Lane.faultCond_iff]
  simp [State.lanesFault, Fin.exists_fin_succ, or_assoc]

/-! ### Alert flags -/

theorem getLsbD_ite_zero {n : Nat} (c : Prop) [Decidable c] (v : BitVec n) (k : Nat) :
    (if c then 0 else v).getLsbD k = (!decide c && v.getLsbD k) := by
  split <;> simp [*]

theorem State.levelFlags_getLsbD (u : State) (k : Nat) :
    u.levelFlags.getLsbD k =
      ((!u.lineA.serv.rx.isEmpty && (0x100#12).getLsbD k) || (!u.lineB.serv.rx.isEmpty && (0x200#12).getLsbD k)
        || (!decide (u.lineA.serv.flags = 0) && (0x400#12).getLsbD k)
        || (!decide (u.lineB.serv.flags = 0) && (0x800#12).getLsbD k)) := by
  simp only [State.levelFlags, BitVec.getLsbD_or, getLsbD_ite_zero, Bool.decide_eq_true]
  rfl

/-- The sticky flags are the flags 0 to 7 (R30). -/
theorem State.alertFlags_sticky (u : State) {k : Nat} (h : k < 8) : u.alertFlags.getLsbD k = u.svc.sticky.getLsbD k := by
  have hlevel : u.levelFlags.getLsbD k = false := by
    rw [State.levelFlags_getLsbD]
    interval_cases k <;> simp
  simp [State.alertFlags, hlevel]
  omega

theorem State.alertFlags_level (u : State) {k : Nat} (h : 8 ≤ k) : u.alertFlags.getLsbD k = u.levelFlags.getLsbD k := by
  simp [State.alertFlags, BitVec.getLsbD_of_ge u.svc.sticky k h]

theorem State.alertFlags_rx (u : State) (l : LineId) :
    u.alertFlags.getLsbD (match l with | .a => 8 | .b => 9) = true ↔ (u.line l).serv.rx ≠ [] := by
  cases l <;> rw [State.alertFlags_level u (by decide), State.levelFlags_getLsbD] <;> simp [State.line]

theorem State.alertFlags_err (u : State) (l : LineId) :
    u.alertFlags.getLsbD (match l with | .a => 10 | .b => 11) = true ↔ (u.line l).serv.flags ≠ 0 := by
  cases l <;> rw [State.alertFlags_level u (by decide), State.levelFlags_getLsbD] <;> simp [State.line]

theorem State.alertOutput_iff (u : State) :
    u.alertOutput = true ↔ ∃ k < 12, u.alertFlags.getLsbD k = true ∧ u.svc.mask.getLsbD k = true := by
  rw [State.alertOutput, decide_eq_true_eq, BitVec.ne_zero_iff]
  simp [BitVec.getLsbD_and]

/-! ### Everything the end of a step writes -/

theorem State.outputOf_iff (u : State) (k : TargetId) :
    ((u.outputOf k).urg = true ↔ (u.tgt k).urgent ≠ [] ∧ (u.restart k).state = .run) ∧
      ((u.outputOf k).rst = true ↔ (u.restart k).state ≠ .run) := by
  simp [State.outputOf, State.urgentOut, State.running]

theorem State.inputOf_iff (u : State) (i : SourceId) :
    (i.val < 16 → u.inputOf i = u.xrSample.getLsbD i.val) ∧
      ((16 ≤ i.val ∧ i.val ≤ 19) ∨ i.val = 26 ∨ i.val = 27 ∨ i.val = 30 ∨ i.val = 31 → u.inputOf i = false) ∧
      (∀ n : LaneId, i.val = 20 + n.val → (u.inputOf i = true ↔ ∃ r ∈ (u.lane n).records, r.notify = true)) ∧
      (∀ l : LineId, i.val = (match l with | .a => 24 | .b => 28) →
        (u.inputOf i = true ↔
          (u.line l).rxThresh.toNat ≤ (u.line l).prog.rx.length ∨
            ((u.line l).interest = true ∧ (u.line l).txThresh.toNat ≤ 32 - (u.line l).prog.tx.length))) ∧
      (∀ l : LineId, i.val = (match l with | .a => 25 | .b => 29) →
        (u.inputOf i = true ↔
          ∃ k < 5, (u.line l).prog.flags.getLsbD k = true ∧ (u.line l).alarmMask.getLsbD k = true)) ∧
      (∀ t : TargetId, i.val = 32 + t.val → u.inputOf i = (u.bell t).unread) ∧
      (i.val = 36 → (u.inputOf i = true ↔ u.host.fault.count ≠ 0)) ∧
      (i.val = 37 →
        (u.inputOf i = true ↔ ∃ n, (u.lane n).state = .halted ∨ ∃ r o, (u.lane n).state = .waitRecord r o)) := by
  refine ⟨State.inputOf_xr, State.inputOf_fixedEdge, fun n h => ?_, fun l h => ?_, fun l h => ?_,
    fun t h => State.inputOf_bell h, fun h => ?_, fun h => ?_⟩
  · rw [State.inputOf_lane h]; exact Lane.readyCond_iff _
  · rw [State.inputOf_data h]; exact Line.dataCond_iff _
  · rw [State.inputOf_alarm h]; exact Line.alarmCond_iff _
  · rw [State.inputOf_fault h]; simp [FaultRecord.occupied]
  · rw [State.inputOf_lanes h]; exact u.lanesFault_iff

/-- Settles O7. -/
theorem endOfStepChangesOnlyWhatItMay : Obligations.EndOfStepChangesOnlyWhatItMay := by
  intro u
  refine ⟨endOfStep_eq u, fun i => ⟨endOfStep_entry u i, endOfStep_input u i⟩, endOfStep_tgt_eq u, endOfStep_out u,
    endOfStep_alert u, u.inputOf_iff, fun k => ⟨rfl, rfl, u.outputOf_iff k⟩, fun k hk => u.alertFlags_sticky hk,
    fun l => ⟨u.alertFlags_rx l, u.alertFlags_err l⟩, u.alertOutput_iff, ?_⟩
  simp [State.alertSummary]

/-! ### NORMAL sources at the end of a step -/

theorem Source.normalEdge_eq_edgeTaken (x : Source) : x.normalEdge = x.edgeTaken := by
  unfold Source.normalEdge Source.edgeTaken Source.merged
  rw [satInc_byte]
  cases x.state <;> rfl

theorem Source.normalEdges_eq_iterate (n : Nat) (x : Source) : x.normalEdges n = Source.edgeTaken^[n] x := by
  induction n generalizing x with
  | zero => rfl
  | succ n ih =>
    rw [Source.normalEdges, ih, Source.normalEdge_eq_edgeTaken]
    rfl

theorem Source.normalEdges_entry (n : Nat) (x : Source) : (x.normalEdges n).entry = x.entry := by
  induction n generalizing x with
  | zero => rfl
  | succ n ih => exact (ih _).trans x.normalEdge_entry

/-- A source that is disabled, URGENT or EDGE does not follow its input. -/
theorem Source.followInput_of_not {x : Source}
    (h : ¬ (x.entry.enable = true ∧ x.entry.cls = .normal ∧ x.entry.trigger = .level)) : x.followInput = x := if_neg h

theorem Source.followInput_eq_followed {x : Source}
    (h : x.entry.enable = true ∧ x.entry.cls = .normal ∧ x.entry.trigger = .level) :
    x.followInput = { x with state := x.followed x.input } := by
  obtain ⟨entry, state, input, merge⟩ := x
  rw [Source.followInput, if_pos h]
  unfold Source.followed
  cases state <;> cases input <;> rfl

/-- Settles O23. -/
theorem normalSourcesAtTheEndOfAStep : Obligations.NormalSourcesAtTheEndOfAStep := by
  intro u i hc x
  have hend := endOfStep_src_normal u i hc
  refine ⟨fun he => ?_, fun he ht => ?_, fun he ht => ?_⟩
  · have he : (u.src i).entry.enable = false := he
    rw [hend, if_neg (by simp [he]), Source.followInput_of_not (by simp [he])]
  · have ht : (u.src i).entry.trigger = .level := ht
    rw [hend, if_neg (by simp [ht]), Source.followInput_eq_followed ⟨he, hc, ht⟩]
  · have ht : (u.src i).entry.trigger = .edge := ht
    rw [hend, if_pos ⟨he, ht⟩, Source.followInput_of_not (by rw [Source.normalEdges_entry]; simp [ht]),
      Source.normalEdges_eq_iterate]

/-! ### XR sampling (R38) -/

theorem foldl_raiseXr (old new : BitVec 16) (l : List SourceId) (s : State) :
    l.foldl (raiseXr old new) s =
      { s with raised := s.raised ++ l.filter fun i =>
          decide (i.val < 16) && new.getLsbD i.val && !old.getLsbD i.val } := by
  induction l generalizing s with
  | nil => simp
  | cons i l ih =>
    rw [List.foldl_cons, ih, List.filter_cons]
    unfold raiseXr State.raise
    by_cases h : i.val < 16 ∧ new.getLsbD i.val = true ∧ old.getLsbD i.val = false
    · rw [if_pos h, if_pos (by simpa [and_assoc] using h)]
      simp only [List.append_assoc, List.singleton_append]
    · rw [if_neg h, if_neg (by simpa [and_assoc] using h)]

/-- A step of the hub's own that is due at an instant that does not lie in the past takes the clock there (log 2). -/
theorem State.advanceTo_of_le {s : State} {n : Nat} (h : s.now ≤ n) :
    s.advanceTo n = { s with now := n, sched := if s.now < n then s.sched.newInstant else s.sched } := by
  unfold State.advanceTo
  split
  · rfl
  · rw [show n = s.now by omega]

/-- The multiple that is next does not lie in the past. -/
theorem le_nextIndex_mul (last since : Nat) {period : Nat} (h : 0 < period) :
    since ≤ nextIndex last since period * period := by
  have hceil : since ≤ (since + (period - 1)) / period * period := by
    have := Nat.div_add_mod (since + (period - 1)) period
    have := Nat.mod_lt (since + (period - 1)) h
    rw [Nat.mul_comm]
    omega
  exact hceil.trans (Nat.mul_le_mul_right _ (le_max_right ..))

/-- Settles O25. -/
theorem xrSamplingTakesAllPinsAtOnce : Obligations.XrSamplingTakesAllPinsAtOnce := by
  intro m s hs x k
  have hlast : x.sched.lastMicro = s.sched.lastMicro := by
    show (if m.gap = 0 then s.sched else s.sched.newInstant).lastMicro = _
    split <;> rfl
  have hk : x.nextMicro = k := by
    unfold State.nextMicro nextIndex
    rw [hlast]
    rfl
  have hle : x.now ≤ k * 32 := by
    rw [← hk]
    exact le_nextIndex_mul _ _ (by decide)
  show Host.Outcome.next (takeStep m sampleXr s) = _
  rw [takeStep_of_high hs]
  unfold sampleXr
  dsimp only
  rw [foldl_raiseXr, hk, show Config.periodsPerMicro = 32 from rfl, State.advanceTo_of_le hle]
  rfl

end Sys2Proof.Machine
end


section
/-! PROOFS. The host transaction port (spec/01): the reasons of a refused transaction (R4), the order of a write's checks
(R160), a held request at its re-examination and its limit (R9 to R11), and the hub-control writes. Settles O16, O17, O19
and O20. -/

namespace Sys2Proof.Machine

open Sys2Proof

/-! ### The reasons of a refused transaction (R3, R4) -/

/-- The codes of the host port's refusals: 1 to 6 of a programming refusal, 9 to 14 of a flow refusal (R3). -/
def Reason.ofHost (r : Reason) : Prop :=
  (r.isProgramming = true ∧ 1 ≤ r.code.toNat ∧ r.code.toNat ≤ 6) ∨
    (r.isProgramming = false ∧ 9 ≤ r.code.toNat ∧ r.code.toNat ≤ 14)

section Reasons
variable {s : State} {r : Reason}

theorem rxRefusal_ofHost {l : LineId} (h : s.rxRefusal l = some r) : r.ofHost := by
  unfold State.rxRefusal at h
  split_ifs at h <;> cases h <;> simp [Reason.ofHost, Reason.isProgramming, Reason.code]

theorem txRefusal_ofHost {l : LineId} (h : s.txRefusal l = some r) : r.ofHost := by
  unfold State.txRefusal at h
  split_ifs at h <;> cases h <;> simp [Reason.ofHost, Reason.isProgramming, Reason.code]

theorem twinRefusal_ofHost {l : LineId} {write : Bool} (h : s.twinRefusal l write = some r) : r.ofHost := by
  cases write with
  | false => exact rxRefusal_ofHost h
  | true => exact txRefusal_ofHost h

theorem endingReason_ofHost {l : LineId} {write : Bool} (h : s.endingReason l write = some r) : r.ofHost := by
  unfold State.endingReason at h
  dsimp only at h
  split_ifs at h <;> cases h <;> simp [Reason.ofHost, Reason.isProgramming, Reason.code]

theorem readRefusal_ofHost {it : Item} (h : s.readRefusal it = some r) : r.ofHost := by
  unfold State.readRefusal at h
  split at h
  · split_ifs at h; cases h; simp [Reason.ofHost, Reason.isProgramming, Reason.code]
  · split_ifs at h; cases h; simp [Reason.ofHost, Reason.isProgramming, Reason.code]
  · exact rxRefusal_ofHost h
  · cases h

theorem doneRefusal_ofHost {t : TargetId} {w : Word} (h : s.doneRefusal t w = some r) : r.ofHost := by
  unfold State.doneRefusal at h
  split at h
  · split at h
    · split_ifs at h; cases h; simp [Reason.ofHost, Reason.isProgramming, Reason.code]
    · cases h; simp [Reason.ofHost, Reason.isProgramming, Reason.code]
  · cases h; simp [Reason.ofHost, Reason.isProgramming, Reason.code]

theorem writeRefusal_ofHost {it : Item} {w : Word} (h : s.writeRefusal it w = some r) : r.ofHost := by
  unfold State.writeRefusal at h
  split at h
  case h_2 => exact doneRefusal_ofHost h
  case h_7 => exact txRefusal_ofHost h
  case h_12 => cases h
  all_goals split_ifs at h; cases h; simp [Reason.ofHost, Reason.isProgramming, Reason.code]

theorem hostWriteCheck_ofHost {priv : Bool} {it : Item} {data : Word} (h : s.hostWriteCheck priv it data = some r) :
    r.ofHost := by
  unfold State.hostWriteCheck at h
  split_ifs at h <;> cases h <;> simp [Reason.ofHost, Reason.isProgramming, Reason.code]

end Reasons

/-- A transaction that ends with HREFUSE asserted was refused with one of the host's reasons, and changed nothing but the
reporting. -/
def RefusedAsHost (s : State) (num : ItemNumber) (write priv : Bool) (t : State) : Prop :=
  t.host.hrefuse = true → ∃ r : Reason, t = s.hostRefused num r write priv ∧ r.ofHost

section Refused
variable (s : State) (num : ItemNumber) (write priv : Bool)

theorem refusedAsHost_refuseHost {r : Reason} (h : r.ofHost) :
    RefusedAsHost s num write priv (refuseHost s num write priv r) := fun _ => ⟨r, refuseHost_eq .., h⟩

theorem refusedAsHost_driveDone (u : State) (w : Word) : RefusedAsHost s num write priv (u.driveDone w) := by
  intro h
  rw [driveDone_eq] at h
  cases h

theorem refusedAsHost_waitAccess (l : LineId) (data : Word) :
    RefusedAsHost s num write priv (waitAccess s num l write priv data) := by
  unfold waitAccess
  split
  · exact refusedAsHost_driveDone _ _ _ _ _ _
  · next r hr =>
    split
    · exact refusedAsHost_refuseHost s num write priv (twinRefusal_ofHost hr)
    · split
      · next e he => exact refusedAsHost_refuseHost s num write priv (endingReason_ofHost he)
      · split
        · exact refusedAsHost_refuseHost s num write priv (twinRefusal_ofHost hr)
        · exact nofun

theorem noItem_ofHost : Reason.noItem.ofHost := .inl ⟨rfl, by decide, by decide⟩

theorem refusedAsHost_hostRead (it : Item) : RefusedAsHost s num false priv (hostRead s num priv it) := by
  unfold hostRead
  split
  · exact refusedAsHost_refuseHost s num false priv noItem_ofHost
  · split
    · exact refusedAsHost_waitAccess _ _ _ _ _ _
    · split
      · next r hr => exact refusedAsHost_refuseHost s num false priv (readRefusal_ofHost hr)
      · exact refusedAsHost_driveDone _ _ _ _ _ _

theorem refusedAsHost_hostWrite (it : Item) (data : Word) :
    RefusedAsHost s num true priv (hostWrite s num priv it data) := by
  unfold hostWrite
  split
  · next r hr => exact refusedAsHost_refuseHost s num true priv (hostWriteCheck_ofHost hr)
  · split
    · exact refusedAsHost_waitAccess _ _ _ _ _ _
    · split
      · next r hr => exact refusedAsHost_refuseHost s num true priv (writeRefusal_ofHost hr)
      · exact refusedAsHost_driveDone _ _ _ _ _ _

theorem refusedAsHost_hostAct (h : s.heldRequest = none) (it : Option Item) (data : Word) :
    RefusedAsHost s num write priv (hostAct write priv num it data s) := by
  rw [hostAct_of_free h]
  cases it with
  | none => exact fun _ => ⟨.noItem, rfl, noItem_ofHost⟩
  | some i =>
    cases write with
    | false => exact refusedAsHost_hostRead s num priv i
    | true => exact refusedAsHost_hostWrite s num priv i data

end Refused

/-- Settles O16. -/
theorem refusedTransactionChangesOnlyTheReporting : Obligations.RefusedTransactionChangesOnlyTheReporting := by
  intro m s t write priv num data hf he hr
  rw [exec_hostTransactionBegin_of_free hf, Host.Outcome.next.injEq] at he
  subst he
  rw [endOfStep_host] at hr
  obtain ⟨r, ht, hcode⟩ := refusedAsHost_hostAct _ num write priv (heldRequest_enter_of_free hf m) (decodeItem num) data hr
  exact ⟨r, by rw [ht], hcode⟩

/-! ### The order of a write's checks (R160) -/

@[simp] theorem State.timer_enter (s : State) (m : Moment) (n : TimerId) : (s.enter m).timer n = s.timer n :=
  State.timer_congr rfl n

@[simp] theorem needsPriv_enter (s : State) (m : Moment) (it : Item) (w : Word) :
    (s.enter m).needsPriv it w = s.needsPriv it w := by
  unfold State.needsPriv
  simp only [State.timer_enter]

@[simp] theorem badValue_enter (s : State) (m : Moment) (it : Item) (w : Word) :
    (s.enter m).badValue it w = s.badValue it w := by
  unfold State.badValue
  simp only [State.lane_enter]

@[simp] theorem doneRefusal_enter (s : State) (m : Moment) (t : TargetId) (w : Word) :
    (s.enter m).doneRefusal t w = s.doneRefusal t w := by
  simp only [State.doneRefusal, State.enter_running, State.enter_tgt]

@[simp] theorem writeRefusal_enter (s : State) (m : Moment) (it : Item) (w : Word) :
    (s.enter m).writeRefusal it w = s.writeRefusal it w := by
  have htx : ∀ l, (s.enter m).txRefusal l = s.txRefusal l := fun l => by
    simp only [State.txRefusal, State.lane_enter, State.line_enter]
  unfold State.writeRefusal
  simp only [State.enter_src, doneRefusal_enter, State.enter_running, State.line_enter, htx, State.lane_enter,
    State.anyTimerRunning, State.timer_enter]
  rfl

theorem hostWriteCheck_protection {s : State} {it : Item} {data : Word}
    (ha : hostAccess it = .readWrite ∨ hostAccess it = .write) (hp : s.needsPriv it data = true) :
    s.hostWriteCheck false it data = some .protection := by
  unfold State.hostWriteCheck
  rw [if_neg (by rcases ha with h | h <;> simp [h]), if_neg (by rcases ha with h | h <;> simp [h]), if_pos (by simp [hp])]

theorem hostWriteCheck_badValue {s : State} {priv : Bool} {it : Item} {data : Word}
    (ha : hostAccess it = .readWrite ∨ hostAccess it = .write) (hp : s.needsPriv it data = false ∨ priv = true)
    (hv : s.badValue it data = true) : s.hostWriteCheck priv it data = some .badValue := by
  unfold State.hostWriteCheck
  rw [if_neg (by rcases ha with h | h <;> simp [h]), if_neg (by rcases ha with h | h <;> simp [h]),
    if_neg (by rcases hp with h | h <;> simp [h]), if_pos hv]

/-- Settles O17. -/
theorem hostWriteChecksInOrder : Obligations.HostWriteChecksInOrder := by
  intro m s num it priv data hf hd x
  rw [exec_hostTransactionBegin_write hf m priv hd]
  refine ⟨fun ha => ?_, fun ha => ?_, fun ha => ⟨fun hp hlow => ?_, fun hp hv => ?_, fun hp hv hw r hr => ?_⟩⟩
  · rw [hostWrite_refused (hostWriteCheck_noItem ha ..)]
  · rw [hostWrite_refused (hostWriteCheck_readOnly ha ..)]
  · subst hlow
    rw [hostWrite_refused (hostWriteCheck_protection ha (by simpa using hp))]
  · rw [hostWrite_refused (hostWriteCheck_badValue ha (by simpa using hp) (by simpa using hv))]
  · have hpass : (s.enter m).hostWriteCheck priv it data = none :=
      hostWriteCheck_none ha (fun hn => hp.resolve_left (by simpa using hn)) (by simpa using hv)
    rw [hostWrite_refused_state hpass hw (by simpa using hr)]

/-! ### The re-examination of a held request (R9, R10, R11) -/

section Reexamine
variable {u : State} {h : Held}

theorem reexamine_of_ending {r : Reason} (he : u.endingReason h.line h.write = some r) (expired : Bool) :
    reexamine u h expired = u.heldRefused r := by
  rw [reexamine, he]
  exact refuseHeld_eq u r

theorem reexamine_of_ready (he : u.endingReason h.line h.write = none) (ht : u.twinRefusal h.line h.write = none)
    (expired : Bool) :
    reexamine u h expired = (twinEffect u h.line h.write h.data).hostDone (u.twinWord h.line h.write) := by
  rw [reexamine, he]
  dsimp only
  rw [if_pos (by simp [ht]), driveDone_eq]

theorem reexamine_of_waiting {r : Reason} (he : u.endingReason h.line h.write = none)
    (ht : u.twinRefusal h.line h.write = some r) (expired : Bool) :
    reexamine u h expired = if expired then u.heldRefused (waitReason h.write) else u := by
  rw [reexamine, he]
  dsimp only
  rw [if_neg (by simp [ht]), refuseHeld_eq]

/-- The lane that serves the queue took the line from the waiting item (R9). -/
theorem reexamine_busy (hbusy : (u.lane (if h.write then txLane h.line else rxLane h.line)).state ≠ .idle)
    (expired : Bool) : reexamine u h expired = u.heldRefused .laneBusy :=
  reexamine_of_ending (by rw [State.endingReason]; exact if_pos ((Lane.holdsJob_iff _).2 hbusy)) expired

section Read
variable (hw : h.write = false) (hidle : (u.lane (rxLane h.line)).state = .idle)
include hw hidle

theorem reexamine_read_ready {e : RxEntry} {rest : List RxEntry} (hrx : (u.line h.line).prog.rx = e :: rest)
    (expired : Bool) :
    reexamine u h expired =
      (u.setLine h.line { u.line h.line with prog := { (u.line h.line).prog with rx := rest } }).hostDone
        (rxWord e rest.length) := by
  have hend : u.endingReason h.line h.write = none := by simp [State.endingReason, hw, Lane.holdsJob, hidle, hrx]
  have htwin : u.twinRefusal h.line h.write = none := by
    rw [hw]
    exact (rxRefusal_of_idle hidle).trans (if_neg (by simp [hrx]))
  rw [reexamine_of_ready hend htwin, hw]
  simp [twinEffect, popEntry, Line.setChan, Line.chan, State.twinWord, rxHeadWord, hrx]

theorem reexamine_read_lost (hrx : (u.line h.line).prog.rx = [])
    (hlost : (u.line h.line).owner ≠ .program ∨ (u.line h.line).state ≠ .running) (expired : Bool) :
    reexamine u h expired = u.heldRefused .empty :=
  reexamine_of_ending (by simp [State.endingReason, hw, Lane.holdsJob, hidle, hrx, hlost]) expired

theorem reexamine_read_waiting (hrx : (u.line h.line).prog.rx = [])
    (hkept : ¬ ((u.line h.line).owner ≠ .program ∨ (u.line h.line).state ≠ .running)) (expired : Bool) :
    reexamine u h expired = if expired then u.heldRefused .empty else u := by
  have hend : u.endingReason h.line h.write = none := by
    simp only [State.endingReason, hw, Lane.holdsJob, hidle, Bool.false_eq_true, if_false]
    rw [if_neg (by simp), if_neg fun hl => hkept hl.2]
  have htwin : u.twinRefusal h.line h.write = some .empty := by
    rw [hw]
    exact (rxRefusal_of_idle hidle).trans (if_pos hrx)
  rw [reexamine_of_waiting hend htwin, hw]
  rfl

theorem reexamine_read_expired (hrx : (u.line h.line).prog.rx = []) : reexamine u h true = u.heldRefused .empty := by
  by_cases hlost : (u.line h.line).owner ≠ .program ∨ (u.line h.line).state ≠ .running
  · exact reexamine_read_lost hw hidle hrx hlost true
  · exact reexamine_read_waiting hw hidle hrx hlost true

end Read

section Write
variable (hw : h.write = true) (hidle : (u.lane (txLane h.line)).state = .idle)
include hw hidle

theorem reexamine_write_lost (hlost : (u.line h.line).owner ≠ .program ∨ (u.line h.line).state ≠ .running)
    (expired : Bool) : reexamine u h expired = u.heldRefused .full :=
  reexamine_of_ending (by simp [State.endingReason, hw, Lane.holdsJob, hidle, hlost]) expired

theorem endingReason_write_kept (hkept : ¬ ((u.line h.line).owner ≠ .program ∨ (u.line h.line).state ≠ .running)) :
    u.endingReason h.line h.write = none := by
  simp only [State.endingReason, hw, Lane.holdsJob, hidle, if_true]
  rw [if_neg (by simp), if_neg hkept]

theorem reexamine_write_ready (hkept : ¬ ((u.line h.line).owner ≠ .program ∨ (u.line h.line).state ≠ .running))
    (hroom : (u.line h.line).prog.tx.length < 32) (expired : Bool) :
    reexamine u h expired =
      (u.setLine h.line { u.line h.line with
        prog := { (u.line h.line).prog with tx := (u.line h.line).prog.tx ++ [field h.data 0 8] } }).hostDone 0 := by
  have htwin : u.twinRefusal h.line h.write = none := by
    rw [hw]
    exact (txRefusal_of_idle hidle).trans (if_neg (by omega))
  rw [reexamine_of_ready (endingReason_write_kept hw hidle hkept) htwin, hw]
  simp [twinEffect, pushChar, Line.setChan, Line.chan, State.twinWord]

theorem reexamine_write_waiting (hkept : ¬ ((u.line h.line).owner ≠ .program ∨ (u.line h.line).state ≠ .running))
    (hfull : 32 ≤ (u.line h.line).prog.tx.length) (expired : Bool) :
    reexamine u h expired = if expired then u.heldRefused .full else u := by
  have htwin : u.twinRefusal h.line h.write = some .full := by
    rw [hw]
    exact (txRefusal_of_idle hidle).trans (if_pos hfull)
  rw [reexamine_of_waiting (endingReason_write_kept hw hidle hkept) htwin, hw]
  rfl

theorem reexamine_write_expired
    (h' : ((u.line h.line).owner ≠ .program ∨ (u.line h.line).state ≠ .running) ∨ 32 ≤ (u.line h.line).prog.tx.length) :
    reexamine u h true = u.heldRefused .full := by
  by_cases hlost : (u.line h.line).owner ≠ .program ∨ (u.line h.line).state ≠ .running
  · exact reexamine_write_lost hw hidle hlost true
  · exact reexamine_write_waiting hw hidle hlost (h'.resolve_left hlost) true

end Write
end Reexamine

@[simp] theorem State.lane_advanceTo (s : State) (n : Nat) (k : LaneId) : (s.advanceTo n).lane k = s.lane k :=
  State.lane_congr (s.advanceTo_lanes n) k

theorem exec_heldRequestCompletion_of_held {s : State} {h : Held} (hs : s.inReset = false) (hh : s.heldRequest = some h)
    (m : Moment) :
    exec (.heldRequestCompletion m) s =
      .next (endOfStep (reexamine (s.arrive m) h (decide (h.deadline ≤ (s.arrive m).now)))) := by
  rw [exec_heldRequestCompletion, execHeldRequestCompletion, takeEarlyStep_of_high hs, completeHeld, heldRequest_arrive, hh]

theorem exec_waitLimitExpiry_of_held {s : State} {h : Held} (hs : s.inReset = false) (hh : s.heldRequest = some h)
    (m : Moment) :
    exec (.waitLimitExpiry m) s = .next (endOfStep (reexamine ((s.enter m).advanceTo h.deadline) h true)) := by
  rw [exec_waitLimitExpiry, execWaitLimitExpiry, takeStep_of_high hs, expireHeld, heldRequest_enter, hh]

/-- Settles O19: both steps are `reexamine`, on states whose lines and lanes are those before the step. -/
theorem heldRequestIsReexamined : Obligations.HeldRequestIsReexamined := by
  intro m s h hs hh x z y deadline late lane lost
  have hlate : (s.enter m).advanceTo h.deadline = late := rfl
  have hlane : ∀ n, late.lane n = s.lane n := fun n => by rw [← hlate, State.lane_advanceTo, State.lane_enter]
  have hline : ∀ l, late.line l = s.line l := fun l => by rw [← hlate, State.line_advanceTo, State.line_enter]
  rw [exec_heldRequestCompletion_of_held hs hh, exec_waitLimitExpiry_of_held hs hh, hlate]
  refine ⟨fun hbusy => ⟨?_, ?_⟩, fun hidle hw => ⟨fun e rest hrx => ⟨?_, ?_⟩, fun hrx => ⟨?_, fun hout => ?_, fun hkept hearly => ?_⟩⟩,
    fun hidle hw => ⟨fun hkept hroom => ⟨?_, ?_⟩, fun hout => ⟨?_, fun hend => ?_, fun hkept hearly => ?_⟩⟩⟩
  · rw [reexamine_busy (u := s.arrive m) hbusy]
  · rw [reexamine_busy (by rw [hlane]; exact hbusy)]
  · have hidle : (s.lane (rxLane h.line)).state = .idle := by simpa [lane, hw] using hidle
    rw [reexamine_read_ready (u := s.arrive m) hw hidle hrx]
    rfl
  · have hidle : (s.lane (rxLane h.line)).state = .idle := by simpa [lane, hw] using hidle
    rw [reexamine_read_ready (u := late) hw (by rw [hlane]; exact hidle) (by rw [hline]; exact hrx), hline]
  · have hidle : (s.lane (rxLane h.line)).state = .idle := by simpa [lane, hw] using hidle
    rw [reexamine_read_expired (u := late) hw (by rw [hlane]; exact hidle) (by rw [hline]; exact hrx)]
  · have hidle : (s.lane (rxLane h.line)).state = .idle := by simpa [lane, hw] using hidle
    rcases hout with hlost | hover
    · rw [reexamine_read_lost (u := s.arrive m) hw hidle hrx hlost]
    · rw [show decide (h.deadline ≤ (s.arrive m).now) = true from decide_eq_true hover,
        reexamine_read_expired (u := s.arrive m) hw hidle hrx]
  · have hidle : (s.lane (rxLane h.line)).state = .idle := by simpa [lane, hw] using hidle
    rw [reexamine_read_waiting (u := s.arrive m) hw hidle hrx hkept,
      show decide (h.deadline ≤ (s.arrive m).now) = false from decide_eq_false (Nat.not_le.2 hearly)]
    rfl
  · have hidle : (s.lane (txLane h.line)).state = .idle := by simpa [lane, hw] using hidle
    rw [reexamine_write_ready (u := s.arrive m) hw hidle hkept hroom]
    rfl
  · have hidle : (s.lane (txLane h.line)).state = .idle := by simpa [lane, hw] using hidle
    rw [reexamine_write_ready (u := late) hw (by rw [hlane]; exact hidle) (by rw [hline]; exact hkept)
      (by rw [hline]; exact hroom), hline]
  · have hidle : (s.lane (txLane h.line)).state = .idle := by simpa [lane, hw] using hidle
    rw [reexamine_write_expired (u := late) hw (by rw [hlane]; exact hidle) (by rw [hline]; exact hout)]
  · have hidle : (s.lane (txLane h.line)).state = .idle := by simpa [lane, hw] using hidle
    rcases hend with hlost | hover
    · rw [reexamine_write_lost (u := s.arrive m) hw hidle hlost]
    · rw [show decide (h.deadline ≤ (s.arrive m).now) = true from decide_eq_true hover,
        reexamine_write_expired (u := s.arrive m) hw hidle hout]
  · have hidle : (s.lane (txLane h.line)).state = .idle := by simpa [lane, hw] using hidle
    rw [reexamine_write_waiting (u := s.arrive m) hw hidle hkept (hout.resolve_left hkept),
      show decide (h.deadline ≤ (s.arrive m).now) = false from decide_eq_false (Nat.not_le.2 hearly)]
    rfl

/-! ### The hub-control writes (R11, R15, R16) -/

/-- A host write to an item by its row is the write of that item on what the step finds (R162). -/
theorem exec_write_of_free {s : State} (hf : s.hostFree) {c : Instr} {priv : Bool} {num : ItemNumber} {data : Word}
    (hc : c.access = some (true, priv, num, data)) {it : Item} (hd : decodeItem num = some it) :
    exec c s = .next (endOfStep (hostWrite (s.enter c.moment) num priv it data)) := by
  rw [exec_of_access hc, exec_hostTransactionBegin_write hf _ priv hd]

/-- A host write that passes all of its checks (R160, R162). -/
theorem exec_write_accepted {s : State} (hf : s.hostFree) {c : Instr} {priv : Bool} {num : ItemNumber} {data : Word}
    (hc : c.access = some (true, priv, num, data)) {it : Item} (hd : decodeItem num = some it)
    (ha : hostAccess it = .readWrite ∨ hostAccess it = .write) (hp : s.needsPriv it data = true → priv = true)
    (hv : s.badValue it data = false) (hw : ∀ l, it ≠ .line l .txWait) (hr : s.writeRefusal it data = none) :
    exec c s = .next (endOfStep ((writeItem (s.enter c.moment) it data).hostDone 0)) := by
  rw [exec_write_of_free hf hc hd, hostWrite_accepted (hostWriteCheck_none ha (by simpa using hp) (by simpa using hv)) hw
    (by simpa using hr)]

/-- A host write without the privilege that its item asks for (R6, R7). -/
theorem exec_write_protected {s : State} (hf : s.hostFree) {c : Instr} {num : ItemNumber} {data : Word}
    (hc : c.access = some (true, false, num, data)) {it : Item} (hd : decodeItem num = some it)
    (ha : hostAccess it = .readWrite ∨ hostAccess it = .write) (hp : s.needsPriv it data = true) :
    exec c s = .next (endOfStep ((s.enter c.moment).hostRefused num .protection true false)) := by
  rw [exec_write_of_free hf hc hd, hostWrite_refused (hostWriteCheck_protection ha (by simpa using hp))]

/-- A host write of a value that its item does not take (R160, check 4). -/
theorem exec_write_badValue {s : State} (hf : s.hostFree) {c : Instr} {priv : Bool} {num : ItemNumber} {data : Word}
    (hc : c.access = some (true, priv, num, data)) {it : Item} (hd : decodeItem num = some it)
    (ha : hostAccess it = .readWrite ∨ hostAccess it = .write) (hp : s.needsPriv it data = false ∨ priv = true)
    (hv : s.badValue it data = true) :
    exec c s = .next (endOfStep ((s.enter c.moment).hostRefused num .badValue true priv)) := by
  rw [exec_write_of_free hf hc hd,
    hostWrite_refused (hostWriteCheck_badValue ha (by simpa using hp) (by simpa using hv))]

/-- A host write that finds its item in the wrong state (R160, check 5). -/
theorem exec_write_refused {s : State} (hf : s.hostFree) {c : Instr} {priv : Bool} {num : ItemNumber} {data : Word}
    (hc : c.access = some (true, priv, num, data)) {it : Item} (hd : decodeItem num = some it)
    (ha : hostAccess it = .readWrite ∨ hostAccess it = .write) (hp : s.needsPriv it data = true → priv = true)
    (hv : s.badValue it data = false) (hw : ∀ l, it ≠ .line l .txWait) {r : Reason}
    (hr : s.writeRefusal it data = some r) :
    exec c s = .next (endOfStep ((s.enter c.moment).hostRefused num r true priv)) := by
  rw [exec_write_of_free hf hc hd, hostWrite_refused_state
    (hostWriteCheck_none ha (by simpa using hp) (by simpa using hv)) hw (by simpa using hr)]

theorem field_zero (w : Word) (n : Nat) : field w 0 n = w.setWidth n := by
  ext i hi
  simp [field]

/-- Settles O20. -/
theorem hubControlWrites : Obligations.HubControlWrites := by
  intro m s data hf x
  have hfield : field data 0 8 = data.setWidth 8 := field_zero data 8
  refine ⟨?_, ?_, ?_, ?_, fun hsmall => ?_, fun hlarge => ?_, ?_⟩
  · exact exec_write_accepted hf rfl (it := .hub .faultAck) rfl (.inr rfl) (fun _ => rfl) rfl nofun rfl
  · exact exec_write_protected hf rfl (it := .hub .faultAck) rfl (.inr rfl) rfl
  · exact exec_write_accepted hf rfl (it := .hub .flowCount) rfl (.inl rfl) (fun _ => rfl) rfl nofun rfl
  · exact exec_write_protected hf rfl (it := .hub .flowCount) rfl (.inl rfl) rfl
  · rw [← hfield]
    exact exec_write_accepted hf rfl (it := .hub .waitLimit) rfl (.inl rfl) (fun _ => rfl)
      (decide_eq_false (Nat.not_lt.2 hsmall)) nofun rfl
  · exact exec_write_badValue hf rfl (it := .hub .waitLimit) rfl (.inl rfl) (.inr rfl) (decide_eq_true hlarge)
  · exact exec_write_protected hf rfl (it := .hub .waitLimit) rfl (.inl rfl) rfl

end Sys2Proof.Machine
end


section
/-! PROOFS. Targets (spec/04): a taken source is offered to no target (R64, R66), and the writes of SRC_STATUS and of a
target's settings (R45, R72 to R74). Settles O29 and O32. -/

namespace Sys2Proof.Machine

open Sys2Proof

/-! ### After a take (R64, R66) -/

theorem Target.floor_le_cpl (x : Target) : x.floor ≤ x.cpl := by
  unfold Target.cpl
  split
  · exact BitVec.le_refl _
  · split_ifs with h
    · exact BitVec.le_of_lt h
    · exact BitVec.le_refl _

theorem Source.followed_of_active {x : Source} {k : TargetId} (h : x.state = .active k) (input : Bool) :
    x.followed input = .active k := by
  unfold Source.followed
  rw [h]

/-- A NORMAL source that no edge was raised for stays ACTIVE at the end of the step. -/
theorem endOfStep_src_active {u : State} {i : SourceId} {k : TargetId} (hc : (u.src i).entry.cls = .normal)
    (hs : (u.src i).state = .active k) (hr : u.raised = []) : ((endOfStep u).src i).state = .active k := by
  obtain ⟨hdisabled, hlevel, hedge⟩ := normalSourcesAtTheEndOfAStep u i hc
  cases he : (u.src i).entry.enable with
  | false => rw [hdisabled he]; exact hs
  | true =>
    cases ht : (u.src i).entry.trigger with
    | level =>
      rw [hlevel he ht]
      exact Source.followed_of_active (x := { u.src i with input := u.inputOf i }) hs _
    | edge =>
      rw [hedge he ht, hr]
      exact hs

theorem State.candidate_ne_of_not_pending {s : State} {i : SourceId} (h : (s.src i).state ≠ .pending) (t : TargetId) :
    s.candidate t ≠ some i ∧ s.offer t ≠ some i := by
  have hcand : s.candidate t ≠ some i := fun hi => h ((candidateIsTheBestPresentableSource s t).1 i |>.1 hi).1.2.2.1
  exact ⟨hcand, fun ho => hcand ((s.offer_eq_some_iff t i).1 ho).1⟩

theorem Target.cpl_congr {x y : Target} (hfloor : x.floor = y.floor) (hstack : x.stack = y.stack) : x.cpl = y.cpl := by
  simp [Target.cpl, hfloor, hstack]

theorem endOfStep_cpl (u : State) (k : TargetId) : ((endOfStep u).tgt k).cpl = (u.tgt k).cpl := by
  have hfloor := congrArg Target.floor (endOfStep_tgt_eq u k)
  have hstack := congrArg Target.stack (endOfStep_tgt_eq u k)
  exact Target.cpl_congr hfloor hstack

theorem Settled.offer_shown {s : State} (h : Settled s) (k : TargetId) :
    (s.out k).irq = (s.offer k).isSome ∧ (s.out k).lvl = s.offerLevel k := by
  rw [h.outputs k]
  exact ⟨rfl, rfl⟩

/-- At the end of a step that left the source ACTIVE and on top of the stack, above the floor, of its target. -/
theorem endOfStep_of_taken {u : State} {k : TargetId} {i : SourceId} {below : List (SourceId × BitVec 5)}
    {level : BitVec 5} (hc : (u.src i).entry.cls = .normal) (hs : (u.src i).state = .active k) (hr : u.raised = [])
    (hstack : (u.tgt k).stack = below ++ [(i, level)]) (habove : (u.tgt k).floor < level) :
    ((endOfStep u).src i).state = .active k ∧ ((endOfStep u).tgt k).cpl = level ∧
      (∀ j, (endOfStep u).candidate j ≠ some i ∧ (endOfStep u).offer j ≠ some i) ∧
      ∀ j, ((endOfStep u).out j).irq = ((endOfStep u).offer j).isSome ∧
        ((endOfStep u).out j).lvl = (endOfStep u).offerLevel j := by
  have hactive := endOfStep_src_active hc hs hr
  refine ⟨hactive, ?_, State.candidate_ne_of_not_pending (by rw [hactive]; exact nofun), fun j => ?_⟩
  · exact (endOfStep_cpl u k).trans ((Target.cpl_of_top hstack).trans (if_pos habove))
  · exact (settled_endOfStep u).offer_shown j

/-- Settles O29: the take of O28, then what the end of the step makes of an ACTIVE source. -/
theorem takenSourceIsOfferedToNoTarget : Obligations.TakenSourceIsOfferedToNoTarget := by
  intro m s t k i priv hf ho he
  rw [(takeAcceptsTheOffer m s k priv hf).2.2 i ho, Host.Outcome.next.injEq] at he
  obtain ⟨hcand, hoffer⟩ := (s.offer_eq_some_iff k i).1 ho
  obtain ⟨⟨_, hnormal, _⟩, _⟩ := (candidateIsTheBestPresentableSource s k).1 i |>.1 hcand
  have habove : (s.tgt k).floor < (s.src i).entry.level :=
    Nat.lt_of_le_of_lt (s.tgt k).floor_le_cpl ((s.offerable_iff k _).1 hoffer).1
  subst he
  have hsrc := State.src_setSrc_self (s.enter m) i { s.src i with state := .active k }
  have htgt := fun x => State.tgt_setTgt_self ((s.enter m).setSrc i { s.src i with state := .active k }) k x
  exact endOfStep_of_taken (((congrArg (·.entry.cls) hsrc)).trans hnormal) (congrArg Source.state hsrc) rfl
    (congrArg Target.stack (htgt _)) ((congrArg Target.floor (htgt _)).symm ▸ habove)

/-! ### The settings of a target (R72 to R74) and the merge count (R45) -/

theorem writeRefusal_settings {s : State} {t : TargetId} {i : TargetItem} (hi : i = .floor ∨ i = .vbase ∨ i = .vstride)
    (data : Word) :
    s.writeRefusal (.tgt t i) data = if (s.restart t).state = .run then none else some .restarting := by
  rcases hi with rfl | rfl | rfl <;> simp [State.writeRefusal, State.running]

/-- Settles O32. -/
theorem mergeCountAndTargetSettingsWrites : Obligations.MergeCountAndTargetSettingsWrites := by
  intro m s i t priv data hf x num
  have hsmall (h : (data.extractLsb' 0 3).toNat ≤ 4) : s.badValue (.tgt t .vstride) data = false :=
    decide_eq_false (Nat.not_lt.2 h)
  refine ⟨fun hrun => ⟨?_, ?_, fun h => ?_⟩, fun hrun => ⟨?_, ?_, fun h => ?_⟩, fun h => ?_, ?_, ?_⟩
  · refine (exec_write_accepted hf rfl (decodeItem_number (.tgt t .floor)) (.inl rfl) nofun rfl nofun ?_).trans ?_
    · rw [writeRefusal_settings (by simp), if_pos hrun]
    · simp [writeItem, writeTarget, field, Instr.moment, x]
  · refine (exec_write_accepted hf rfl (decodeItem_number (.tgt t .vbase)) (.inl rfl) nofun rfl nofun ?_).trans ?_
    · rw [writeRefusal_settings (by simp), if_pos hrun]
    · simp [writeItem, writeTarget, field, Instr.moment, x]
  · refine (exec_write_accepted hf rfl (decodeItem_number (.tgt t .vstride)) (.inl rfl) nofun (hsmall h) nofun ?_).trans ?_
    · rw [writeRefusal_settings (by simp), if_pos hrun]
    · simp [writeItem, writeTarget, field, Instr.moment, x]
  · exact exec_write_refused hf rfl (decodeItem_number (.tgt t .floor)) (.inl rfl) nofun rfl nofun
      (by rw [writeRefusal_settings (by simp), if_neg hrun])
  · exact exec_write_refused hf rfl (decodeItem_number (.tgt t .vbase)) (.inl rfl) nofun rfl nofun
      (by rw [writeRefusal_settings (by simp), if_neg hrun])
  · exact exec_write_refused hf rfl (decodeItem_number (.tgt t .vstride)) (.inl rfl) nofun (hsmall h) nofun
      (by rw [writeRefusal_settings (by simp), if_neg hrun])
  · exact exec_write_badValue hf rfl (decodeItem_number (.tgt t .vstride)) (.inl rfl) (.inl rfl) (decide_eq_true h)
  · refine (exec_write_accepted hf rfl (decodeItem_number (.tgt t .urgentStatus)) (.inl rfl) nofun rfl nofun rfl).trans ?_
    simp [writeItem, writeTarget, Instr.moment, x]
  · refine (exec_write_accepted hf rfl (decodeItem_number (.srcStatus i)) (.inl rfl) nofun rfl nofun rfl).trans ?_
    simp [writeItem, Instr.moment, x]

end Sys2Proof.Machine
end


section
/-! PROOFS. The serial lines under command (spec/05, spec/06): start, stop and clear, the accesses of the character queues,
the settings and flags, and the ownership commands. Settles O34, O35, O36, O37 and O38. -/

namespace Sys2Proof.Machine

open Sys2Proof

/-! ### What a service command finds, and WRITE (R26) -/

@[simp] theorem State.line_arrive (s : State) (m : Moment) (l : LineId) : (s.arrive m).line l = s.line l :=
  State.line_congr (State.arrive_lineA s m) (State.arrive_lineB s m) l

@[simp] theorem State.lane_arrive (s : State) (m : Moment) (n : LaneId) : (s.arrive m).lane n = s.lane n :=
  State.lane_congr (State.arrive_lanes s m) n

/-- A WRITE of an item that the service port writes and whose value is good (R26). -/
theorem writeItemCommand_accepted {arg : BitVec 16} {it : Item} (hd : decodeItem arg = some it)
    (ha : svcAccess it = .readWrite) {data : Word} {s : State} (hv : s.badValue it data = false) :
    writeItemCommand arg data s = ⟨writeItem s it data, .ok, 0⟩ := by
  simp [writeItemCommand, hd, ha, hv]

/-- A WRITE of a value that its item does not take (R26). -/
theorem writeItemCommand_badValue {arg : BitVec 16} {it : Item} (hd : decodeItem arg = some it)
    (ha : svcAccess it = .readWrite) {data : Word} {s : State} (hv : s.badValue it data = true) :
    writeItemCommand arg data s = ⟨s, .badValue, 0⟩ := by
  simp [writeItemCommand, hd, ha, hv, refuseCommand]

/-- A host write that passes all of its checks, by the state that its item's write leaves (R160, R162). -/
theorem exec_write_leaves {s u : State} (hf : s.hostFree) {c : Instr} {priv : Bool} {num : ItemNumber} {data : Word}
    (hc : c.access = some (true, priv, num, data)) {it : Item} (hd : decodeItem num = some it)
    (ha : hostAccess it = .readWrite ∨ hostAccess it = .write) (hp : s.needsPriv it data = true → priv = true)
    (hv : s.badValue it data = false) (hw : ∀ l, it ≠ .line l .txWait) (hr : s.writeRefusal it data = none)
    (hu : writeItem (s.enter c.moment) it data = u) : exec c s = .next (endOfStep (u.hostDone 0)) := by
  rw [exec_write_accepted hf hc hd ha hp hv hw hr, hu]

/-- A WRITE frame that the port executes and that is accepted, by the state that the item's write leaves. -/
theorem exec_write_frame_leaves {s u : State} {m : Moment} (h : s.svcFree m) (it : Item) (ha : svcAccess it = .readWrite)
    {data : Word} (hv : (s.arrive m).badValue it data = false) (hu : writeItem (s.arrive m) it data = u) :
    ∃ t, exec (.write m it.number data) s = .next t ∧ WriteFrame (s.arrive m) t u .ok 0x10 it.number data :=
  exec_write_frame h (hu ▸ writeItemCommand_accepted (decodeItem_number it) ha hv)

/-! ### Start and stop (R80, R81) -/

theorem State.setLine_line (s : State) (l : LineId) : s.setLine l (s.line l) = s := by cases l <;> rfl

theorem Line.started_eq (x : Line) (now : Nat) :
    x.started now = if x.state = .running then x else { x with state := .running, rx := ⟨.waitMark, now, 0, now⟩ } := by
  unfold Line.started
  split
  · next h => rw [if_pos h]
  · next h => rw [if_neg h]

theorem Line.stopped_eq (x : Line) :
    x.stopped =
      if x.state = .running then
        { x with state := if x.tx = none then .stopped else .draining, rx := { x.rx with phase := .off } }
      else x := by
  unfold Line.stopped
  split
  · next h => rw [if_pos h]; cases x.tx <;> rfl
  · next h => rw [if_neg h]

theorem setLine_started {u : State} {l : LineId} {y : Line} (h : u.line l = y) :
    u.setLine l ((u.line l).started u.now) =
      if y.state = .running then u
      else u.setLine l { y with state := .running, rx := ⟨.waitMark, u.now, 0, u.now⟩ } := by
  subst h
  rw [Line.started_eq]
  split_ifs
  · exact u.setLine_line l
  · rfl

theorem setLine_stopped {u : State} {l : LineId} {y : Line} (h : u.line l = y) :
    u.setLine l (u.line l).stopped =
      if y.state = .running then
        u.setLine l
          { y with state := if y.tx = none then .stopped else .draining, rx := { y.rx with phase := .off } }
      else u := by
  subst h
  rw [Line.stopped_eq]
  split_ifs
  · rfl
  · rfl
  · exact u.setLine_line l

/-- LINE_CONTROL's command in the low bits of a written word (R81). -/
theorem writeItem_control (u : State) (l : LineId) (high : BitVec 30) (c : BitVec 2) :
    writeItem u (.line l .control) (high ++ c) = lineCommand u l c := by
  simp only [writeItem, writeLine, field_append_command]

theorem badValue_control (u : State) (l : LineId) (high : BitVec 30) (c : BitVec 2) :
    u.badValue (.line l .control) (high ++ c) = decide (c = 0) := by
  simp only [State.badValue, field_append_command]

/-- Settles O34. -/
theorem linesStartAndStop : Obligations.LinesStartAndStop := by
  intro m s l high data x a y num started stopped
  have hx : x.line l = y := State.line_enter s m l
  have ha : a.line l = y := State.line_arrive s m l
  have hstart (u : State) (h : u.line l = y) : u.setLine l ((u.line l).started u.now) = started u := setLine_started h
  have hstop (u : State) (h : u.line l = y) : u.setLine l (u.line l).stopped = stopped u := setLine_stopped h
  refine ⟨fun hf => ⟨?_, ?_, ?_, ?_⟩, fun hf => ⟨?_, ?_, ?_⟩⟩
  · exact exec_write_leaves hf rfl (decodeItem_number (.line l .start)) (.inr rfl) (fun _ => rfl) rfl nofun rfl
      (hstart x hx)
  · exact exec_write_leaves hf rfl (decodeItem_number (.line l .stop)) (.inr rfl) (fun _ => rfl) rfl nofun rfl
      (hstop x hx)
  · exact exec_write_protected hf rfl (decodeItem_number (.line l .start)) (.inr rfl) rfl
  · exact exec_write_protected hf rfl (decodeItem_number (.line l .stop)) (.inr rfl) rfl
  · exact exec_write_frame_leaves hf (.line l .control) rfl (badValue_control a l high 1)
      ((writeItem_control a l high 1).trans (hstart a ha))
  · exact exec_write_frame_leaves hf (.line l .control) rfl (badValue_control a l high 2)
      ((writeItem_control a l high 2).trans (hstop a ha))
  · exact exec_write_frame hf (writeItemCommand_badValue (decodeItem_number (.line l .control)) rfl
      (badValue_control a l high 0))

/-! ### LINE_CLEAR (R96, R128) -/

theorem clearHeldOn_of_free {u : State} {l : LineId} (h : ∀ g, u.heldRequest = some g → g.line ≠ l) : clearHeldOn u l = u := by
  unfold clearHeldOn
  cases hu : u.heldRequest with
  | none => rfl
  | some g => exact if_neg (h g hu)

theorem clearHeldOn_of_held {u : State} {g : Held} (h : u.heldRequest = some g) :
    clearHeldOn u g.line = u.heldRefused .cleared := by
  unfold clearHeldOn
  rw [h]
  exact (if_pos rfl).trans (refuseHeld_eq u .cleared)

@[simp] theorem heldRequest_setLine (u : State) (l : LineId) (x : Line) : (u.setLine l x).heldRequest = u.heldRequest := by
  simp only [State.heldRequest, State.setLine_host]

theorem rxLane_ne_txLane (l : LineId) : rxLane l ≠ txLane l := by cases l <;> decide

/-- Both lanes of the line are aborted as the state before the command had them. -/
theorem clearLine_eq {u v : State} {l : LineId} {y : Line} {p q : Lane} (hline : u.line l = y)
    (hp : u.lane (rxLane l) = p) (hq : u.lane (txLane l) = q)
    (hv : clearHeldOn (u.setLine l (y.cleared u.now)) l = v) (hlanes : v.lanes = u.lanes) :
    clearLine u l = (v.setLane (rxLane l) p.aborted).setLane (txLane l) q.aborted := by
  have hlane := State.lane_congr hlanes
  unfold clearLine
  rw [hline, hv]
  dsimp only
  rw [State.lane_setLane_ne _ (rxLane_ne_txLane l), hlane, hlane, hp, hq, Lane.abort_eq_aborted, Lane.abort_eq_aborted]

/-- Settles O35. -/
theorem lineClearEmptiesTheLine : Obligations.LineClearEmptiesTheLine := by
  intro m s l high data x a y num cleared aborted
  have hx (v : State) := clearLine_eq (v := v) (State.line_enter s m l) (State.lane_enter s m _) (State.lane_enter s m _)
  have ha (v : State) := clearLine_eq (v := v) (State.line_arrive s m l) (State.lane_arrive s m _) (State.lane_arrive s m _)
  refine ⟨fun hf => ⟨?_, ?_⟩, fun hf => ⟨fun hno => ?_, fun h hh hl => ?_⟩⟩
  · have hnone : ∀ g, (x.setLine l cleared).heldRequest = some g → g.line ≠ l := by
      rw [heldRequest_setLine, heldRequest_enter_of_free hf m]
      exact nofun
    exact exec_write_leaves hf rfl (decodeItem_number (.line l .clear)) (.inr rfl) (fun _ => rfl) rfl nofun rfl
      (hx _ (clearHeldOn_of_free hnone) (State.setLine_lanes ..))
  · exact exec_write_protected hf rfl (decodeItem_number (.line l .clear)) (.inr rfl) rfl
  · have hnone : ∀ g, (a.setLine l cleared).heldRequest = some g → g.line ≠ l := by
      rw [heldRequest_setLine, heldRequest_arrive]
      exact hno
    exact exec_write_frame_leaves hf (.line l .control) rfl (badValue_control a l high 3)
      ((writeItem_control a l high 3).trans (ha _ (clearHeldOn_of_free hnone) (State.setLine_lanes ..)))
  · subst hl
    have hheld : (a.setLine h.line cleared).heldRequest = some h := by
      rw [heldRequest_setLine, heldRequest_arrive, hh]
    exact exec_write_frame_leaves hf (.line h.line .control) rfl (badValue_control a h.line high 3)
      ((writeItem_control a h.line high 3).trans (ha _ (clearHeldOn_of_held hheld) (State.setLine_lanes ..)))

end Sys2Proof.Machine
end


section
/-! PROOFS. The words of the items (spec/11, section 11.5): the fields of a word that is put together from fields, the
settings words both ways. Settles O10. -/

namespace Sys2Proof.Machine

open Sys2Proof

/-! ### Fields of a word put together from fields -/

theorem field_eq_extract (w : Word) (lo len : Nat) : w.extractLsb' lo len = field w lo len := rfl

@[simp] theorem field_or (a b : Word) (lo len : Nat) : field (a ||| b) lo len = field a lo len ||| field b lo len := by
  ext i hi
  simp [field]

@[simp] theorem field_of_zero (lo len : Nat) : field 0 lo len = 0 := by
  ext i hi
  simp [field]

theorem field_toNat (w : Word) (lo len : Nat) : (field w lo len).toNat = w.toNat / 2 ^ lo % 2 ^ len := by
  simp [field, BitVec.extractLsb'_toNat, Nat.shiftRight_eq_div_pow]

theorem field_eq_zero_of_lt {w : Word} {lo : Nat} (h : w.toNat < 2 ^ lo) (len : Nat) : field w lo len = 0 := by
  apply BitVec.eq_of_toNat_eq
  rw [field_toNat, Nat.div_eq_of_lt h]
  rfl

theorem getLsbD_place {n : Nat} (v : BitVec n) (lo k : Nat) :
    (place v lo).getLsbD k = (decide (k < 32) && !decide (k < lo) && v.getLsbD (k - lo)) := by
  rw [place, BitVec.getLsbD_shiftLeft, BitVec.getLsbD_setWidth]
  by_cases hk : k < 32
  · have : k - lo < 32 := by omega
    simp [hk, this]
  · simp [hk]

section Place
variable {n : Nat} {v : BitVec n} {lo k len : Nat}

theorem getLsbD_place_of_lt (h : k < lo) : (place v lo).getLsbD k = false := by
  simp [getLsbD_place, h]

theorem getLsbD_place_of_le (h : lo + n ≤ k) : (place v lo).getLsbD k = false := by
  rw [getLsbD_place, BitVec.getLsbD_of_ge v _ (by omega), Bool.and_false]

theorem getLsbD_place_self (h : lo + n ≤ 32) (hk : k < n) : (place v lo).getLsbD (lo + k) = v.getLsbD k := by
  rw [getLsbD_place, decide_eq_true (by omega : lo + k < 32), decide_eq_false (by omega : ¬ lo + k < lo),
    Nat.add_sub_cancel_left]
  rfl

@[simp] theorem getElem_place_of_lt (hk : k < 32) (h : k < lo) : (place v lo)[k] = false := getLsbD_place_of_lt h

@[simp] theorem getElem_place_of_le (hk : k < 32) (h : lo + n ≤ k) : (place v lo)[k] = false := getLsbD_place_of_le h

@[simp] theorem field_place_self (h : lo + n ≤ 32) : field (place v lo) lo n = v := by
  apply BitVec.eq_of_getLsbD_eq
  intro i hi
  rw [field, BitVec.getLsbD_extractLsb', decide_eq_true hi, Bool.true_and, getLsbD_place_self h hi]

@[simp] theorem field_place_of_le (h : k + len ≤ lo) : field (place v lo) k len = 0 := by
  ext i hi
  have hk : k + i < lo := by omega
  simp [field, getLsbD_place_of_lt hk]

@[simp] theorem field_place_of_ge (h : lo + n ≤ k) : field (place v lo) k len = 0 := by
  ext i hi
  have hk : lo + n ≤ k + i := by omega
  simp [field, getLsbD_place_of_le hk]

end Place

section BitAt
variable {b : Bool} {lo k len : Nat}

@[simp] theorem getElem_bitAt_self (h : lo < 32) : (bitAt b lo)[lo] = b := by
  have hbit : (place (BitVec.ofBool b) lo).getLsbD (lo + 0) = (BitVec.ofBool b).getLsbD 0 :=
    getLsbD_place_self (by omega) (by decide)
  exact hbit.trans (by simp)

@[simp] theorem getElem_bitAt_of_ne (hk : k < 32) (h : k ≠ lo) : (bitAt b lo)[k] = false := by
  rcases Nat.lt_or_gt_of_ne h with hlt | hgt
  · exact getLsbD_place_of_lt hlt
  · exact getLsbD_place_of_le hgt

@[simp] theorem field_bitAt_of_le (h : k + len ≤ lo) : field (bitAt b lo) k len = 0 := field_place_of_le h

@[simp] theorem field_bitAt_of_gt (h : lo < k) : field (bitAt b lo) k len = 0 := field_place_of_ge h

end BitAt

section PlaceNat
variable {n lo k len : Nat}

theorem placeNat_toNat (n lo : Nat) : (placeNat n lo).toNat = n * 2 ^ lo % 2 ^ 32 := by
  simp [placeNat, Nat.shiftLeft_eq]

theorem placeNat_toNat_of_lt (h : n * 2 ^ lo < 2 ^ 32) : (placeNat n lo).toNat = n * 2 ^ lo := by
  rw [placeNat_toNat, Nat.mod_eq_of_lt h]

/-- A count that fits its field is what the field holds. -/
theorem field_placeNat_toNat (hn : n < 2 ^ len) (h : lo + len ≤ 32) : (field (placeNat n lo) lo len).toNat = n := by
  have hfit : n * 2 ^ lo < 2 ^ 32 :=
    calc n * 2 ^ lo < 2 ^ len * 2 ^ lo := Nat.mul_lt_mul_of_pos_right hn (Nat.two_pow_pos lo)
      _ = 2 ^ (lo + len) := by rw [Nat.pow_add, Nat.mul_comm]
      _ ≤ 2 ^ 32 := Nat.pow_le_pow_right (by decide) h
  rw [field_toNat, placeNat_toNat_of_lt hfit, Nat.mul_div_cancel _ (Nat.two_pow_pos lo), Nat.mod_eq_of_lt hn]

theorem placeNat_toNat_le (n lo : Nat) : (placeNat n lo).toNat ≤ n * 2 ^ lo := by
  rw [placeNat_toNat]
  exact Nat.mod_le ..

@[simp] theorem field_placeNat_of_le (h : k + len ≤ lo) : field (placeNat n lo) k len = 0 := by
  ext i hi
  have hk : k + i < lo := by omega
  simp [field, placeNat, BitVec.getLsbD_shiftLeft, hk]

@[simp] theorem field_placeNat_of_ge (h : n * 2 ^ lo < 2 ^ k) : field (placeNat n lo) k len = 0 :=
  field_eq_zero_of_lt ((placeNat_toNat_le n lo).trans_lt h) len

@[simp] theorem getElem_placeNat_of_lt (hk : k < 32) (h : k < lo) : (placeNat n lo)[k] = false := by
  simp [placeNat, h]

@[simp] theorem getElem_placeNat_of_ge (hk : k < 32) (h : n * 2 ^ lo < 2 ^ k) : (placeNat n lo)[k] = false :=
  Nat.testBit_lt_two_pow ((placeNat_toNat_le n lo).trans_lt h)

end PlaceNat

/-! ### The settings words as read -/

theorem SourceClass.bit_iff (c : SourceClass) : c.bit = true ↔ c = .urgent := by cases c <;> simp [SourceClass.bit]

theorem Trigger.bit_iff (t : Trigger) : t.bit = true ↔ t = .edge := by cases t <;> simp [Trigger.bit]

theorem entryWord_fields (e : Entry) :
    (entryWord e).getLsbD 0 = e.enable ∧ ((entryWord e).getLsbD 1 = true ↔ e.cls = .urgent) ∧
      ((entryWord e).getLsbD 2 = true ↔ e.trigger = .edge) ∧ (entryWord e).getLsbD 3 = e.spreadMode ∧
      (field (entryWord e) 4 2).toNat = e.fixed.val ∧ field (entryWord e) 6 2 = 0 ∧
      (∀ t : TargetId, (entryWord e).getLsbD (8 + t.val) = inSet e.spread t) ∧ field (entryWord e) 12 4 = 0 ∧
      field (entryWord e) 16 5 = e.level ∧ field (entryWord e) 21 3 = 0 ∧ field (entryWord e) 24 8 = e.tag := by
  have hfixed : e.fixed.val < 2 ^ 2 := e.fixed.isLt
  have hplace : (field (placeNat e.fixed.val 4) 4 2).toNat = e.fixed.val := field_placeNat_toNat hfixed (by decide)
  have hspread (t : TargetId) : (place e.spread 8)[8 + t.val] = inSet e.spread t :=
    getLsbD_place_self (by decide) t.isLt
  have habove (t : TargetId) : (placeNat e.fixed.val 4)[8 + t.val] = false :=
    getElem_placeNat_of_ge _ (lt_of_lt_of_le (by omega : _ < 2 ^ 8) (Nat.pow_le_pow_right (by decide) (by omega)))
  refine ⟨?_, ?_, ?_, ?_, ?_, ?_, fun t => ?_, ?_, ?_, ?_, ?_⟩ <;>
    simp (disch := omega) [entryWord, SourceClass.bit_iff, Trigger.bit_iff, hplace, hspread, habove]

theorem toFour_eq {x : BitVec 2} {t : Fin 4} (h : x.toNat = t.val) : toFour x = t := Fin.ext h

theorem entryOfWord_entryWord (e : Entry) : entryOfWord (entryWord e) = e := by
  obtain ⟨henable, hcls, htrigger, hmode, hfixed, -, -, -, hlevel, -, htag⟩ := entryWord_fields e
  have hspread : field (entryWord e) 8 4 = e.spread := by simp (disch := omega) [entryWord]
  have hcls' : (if (entryWord e).getLsbD 1 = true then SourceClass.urgent else .normal) = e.cls := by
    simp only [hcls]
    cases e.cls <;> rfl
  have htrigger' : (if (entryWord e).getLsbD 2 = true then Trigger.edge else .level) = e.trigger := by
    simp only [htrigger]
    cases e.trigger <;> rfl
  unfold entryOfWord
  rw [henable, hcls', htrigger', hmode, toFour_eq hfixed, hspread, hlevel, htag]

theorem formatWord_fields (f : Format) :
    field (formatWord f) 0 3 = f.rate ∧ (formatWord f).getLsbD 3 = false ∧ (formatWord f).getLsbD 4 = f.seven ∧
      field (formatWord f) 5 3 = 0 ∧
      (field (formatWord f) 8 2).toNat = (match f.parity with | .none => 0 | .even => 1 | .odd => 2) ∧
      field (formatWord f) 10 2 = 0 ∧ (formatWord f).getLsbD 12 = f.twoStop ∧ field (formatWord f) 13 19 = 0 := by
  have hcode : f.parity.code.toNat = (match f.parity with | .none => 0 | .even => 1 | .odd => 2) := by
    cases f.parity <;> rfl
  refine ⟨?_, ?_, ?_, ?_, ?_, ?_, ?_, ?_⟩ <;> simp (disch := omega) [formatWord, hcode]

theorem parityOfCode_code (p : Parity) : parityOfCode p.code = p := by cases p <;> rfl

theorem formatOfWord_formatWord (f : Format) : formatOfWord (formatWord f) = f := by
  obtain ⟨hrate, -, hseven, -, -, -, htwo, -⟩ := formatWord_fields f
  have hparity : field (formatWord f) 8 2 = f.parity.code := by simp (disch := omega) [formatWord]
  rw [formatOfWord, hrate, hseven, hparity, parityOfCode_code, htwo]

theorem ctlWord_fields (c : CtlChars) :
    field (ctlWord c) 0 8 = c.seize ∧ field (ctlWord c) 8 8 = c.yield ∧ field (ctlWord c) 16 8 = c.attention ∧
      (ctlWord c).getLsbD 24 = c.recognition ∧ field (ctlWord c) 25 7 = 0 := by
  refine ⟨?_, ?_, ?_, ?_, ?_⟩ <;> simp (disch := omega) [ctlWord]

theorem ctlOfWord_ctlWord (c : CtlChars) : ctlOfWord (ctlWord c) = c := by
  obtain ⟨hseize, hyield, hattention, hrecognition, -⟩ := ctlWord_fields c
  rw [ctlOfWord, hseize, hyield, hattention, hrecognition]

theorem placeWord_fields (a : Assembly) :
    field (placeWord a) 0 12 = a.offset ∧ field (placeWord a) 12 4 = 0 ∧ field (placeWord a) 16 13 = a.length ∧
      field (placeWord a) 29 3 = 0 := by
  refine ⟨?_, ?_, ?_, ?_⟩ <;> simp (disch := omega) [placeWord]

theorem modeWord_fields (a : Assembly) :
    field (modeWord a) 0 8 = a.tag ∧ field (modeWord a) 8 8 = a.stopValue ∧ (modeWord a).getLsbD 16 = a.stopPresent ∧
      (modeWord a).getLsbD 17 = a.notify ∧ (modeWord a).getLsbD 18 = a.endOnError ∧
      (modeWord a).getLsbD 19 = a.haltOnError ∧ field (modeWord a) 20 12 = 0 := by
  refine ⟨?_, ?_, ?_, ?_, ?_, ?_, ?_⟩ <;> simp (disch := omega) [modeWord]

theorem Assembly.write_back (a : Assembly) : (a.withPlace (placeWord a)).withMode (modeWord a) = a := by
  obtain ⟨hoffset, -, hlength, -⟩ := placeWord_fields a
  obtain ⟨htag, hvalue, hpresent, hnotify, herror, hhalt, -⟩ := modeWord_fields a
  rw [Assembly.withMode, Assembly.withPlace, hoffset, hlength, htag, hvalue, hpresent, hnotify, herror, hhalt]

/-- The escalation target of TTM_CONFIG, 0 when there is none (R134). -/
theorem configWord_fields (x : Timer) :
    (configWord x).getLsbD 0 = x.periodic ∧ (configWord x).getLsbD 1 = x.guard ∧ field (configWord x) 2 2 = 0 ∧
      (configWord x).getLsbD 4 = x.escalation.isSome ∧
      (field (configWord x) 5 2).toNat = (match x.escalation with | some t => t.val | none => 0) ∧
      field (configWord x) 7 25 = 0 := by
  cases he : x.escalation with
  | none => refine ⟨?_, ?_, ?_, ?_, ?_, ?_⟩ <;> simp (disch := omega) [configWord, he]
  | some t =>
    have htarget : t.val < 2 ^ 2 := t.isLt
    have hplace : (field (placeNat t.val 5) 5 2).toNat = t.val := field_placeNat_toNat htarget (by decide)
    refine ⟨?_, ?_, ?_, ?_, ?_, ?_⟩ <;> simp (disch := omega) [configWord, he, hplace]

theorem escalationOfWord_configWord (x : Timer) : escalationOfWord (configWord x) = x.escalation := by
  obtain ⟨-, -, -, hsome, htarget, -⟩ := configWord_fields x
  unfold escalationOfWord
  rw [hsome]
  cases he : x.escalation with
  | none => rfl
  | some t => exact congrArg some (toFour_eq (by rw [htarget, he]))

theorem Timer.configure_configWord (x : Timer) : x.configure (configWord x) = x := by
  obtain ⟨hperiodic, hguard, -⟩ := configWord_fields x
  rw [Timer.configure, hperiodic, hguard, escalationOfWord_configWord]

/-! ### The settings words as written -/

theorem entryOfWord_fields (w : Word) :
    let e := entryOfWord w
    e.enable = w.getLsbD 0 ∧ (e.cls = .urgent ↔ w.getLsbD 1 = true) ∧ (e.trigger = .edge ↔ w.getLsbD 2 = true) ∧
      e.spreadMode = w.getLsbD 3 ∧ e.fixed.val = (field w 4 2).toNat ∧
      (∀ t : TargetId, inSet e.spread t = w.getLsbD (8 + t.val)) ∧ e.level = field w 16 5 ∧ e.tag = field w 24 8 := by
  refine ⟨rfl, ?_, ?_, rfl, rfl, fun t => ?_, rfl, rfl⟩
  · simp [entryOfWord]
  · simp [entryOfWord]
  · simp [entryOfWord, inSet, field, t.isLt]

theorem formatOfWord_fields (w : Word) :
    let f := formatOfWord w
    f.rate = field w 0 3 ∧ f.seven = w.getLsbD 4 ∧ (field w 8 2 = 0 → f.parity = .none) ∧
      (field w 8 2 = 1 → f.parity = .even) ∧ (field w 8 2 = 2 → f.parity = .odd) ∧ f.twoStop = w.getLsbD 12 := by
  refine ⟨rfl, rfl, fun h => ?_, fun h => ?_, fun h => ?_, rfl⟩ <;> simp [formatOfWord, h, parityOfCode]

/-- Settles O10: each word's fields in both directions, then the round trips. -/
theorem settingsWordsRoundTrip : Obligations.SettingsWordsRoundTrip := by
  refine ⟨fun w => ⟨entryOfWord_fields w, formatOfWord_fields w, rfl, rfl, rfl, rfl⟩, fun s => ⟨fun i => ?_, fun l => ⟨?_, ?_⟩,
    fun n => ⟨?_, ?_⟩, fun n => ?_⟩, entryOfWord_entryWord, formatOfWord_formatWord, ctlOfWord_ctlWord, Assembly.write_back,
    Timer.configure_configWord⟩
  · exact ⟨rfl, entryWord_fields _⟩
  · exact ⟨rfl, formatWord_fields _⟩
  · exact ⟨rfl, ctlWord_fields _⟩
  · exact ⟨rfl, placeWord_fields _⟩
  · exact ⟨rfl, modeWord_fields _⟩
  · exact ⟨rfl, configWord_fields _⟩

end Sys2Proof.Machine
end


section
/-! PROOFS. The status and value words of the items (spec/11, section 11.5), the dispatch word and the dispatch address
(R65): each word's fields, in the states whose counts fit them. Settles O11. -/

namespace Sys2Proof.Machine

open Sys2Proof

/-! ### The dispatch word and address (R65) -/

theorem dispatchWord_fields (i : SourceId) (level : BitVec 5) (depth : Nat) (tag : Byte) (hd : depth ≤ 8) :
    let w := dispatchWord i level depth tag
    (field w 0 6).toNat = i.val ∧ field w 6 2 = 0 ∧ field w 8 5 = level ∧ field w 13 3 = 0 ∧
      (field w 16 4).toNat = depth ∧ field w 20 4 = 0 ∧ field w 24 8 = tag := by
  have hi := i.isLt
  refine ⟨?_, ?_, ?_, ?_, ?_, ?_, ?_⟩ <;> simp (disch := omega) [dispatchWord, field_placeNat_toNat]

theorem dispatchAddress_toNat (base : BitVec 20) (code : BitVec 3) (tag : Byte) :
    (dispatchAddress base code tag).toNat =
      (base.toNat * 4096 + tag.toNat * (16 * 2 ^ code.toNat)) % 2 ^ 32 := by
  have hbase : (vbaseWord base).toNat = base.toNat * 4096 := by
    have := base.isLt
    simp only [vbaseWord, place, BitVec.toNat_shiftLeft, BitVec.toNat_setWidth, Nat.shiftLeft_eq]
    omega
  have htag : (tag.setWidth 32).toNat = tag.toNat := by
    have := tag.isLt
    simp only [BitVec.toNat_setWidth]
    omega
  have hstride : (16#32 <<< code.toNat).toNat = 16 * 2 ^ code.toNat := by
    have hcode : 2 ^ code.toNat ≤ 2 ^ 7 := Nat.pow_le_pow_right (by decide) (by have := code.isLt; omega)
    simp only [BitVec.toNat_shiftLeft, BitVec.toNat_ofNat, Nat.shiftLeft_eq]
    omega
  rw [dispatchAddress, BitVec.toNat_add, BitVec.toNat_mul, hbase, htag, hstride, Nat.add_mod_mod]

/-! ### HUB_FAULT and SRC_STATUS -/

theorem faultWord_fields (f : FaultRecord) :
    let w := faultWord f
    field w 0 16 = f.item ∧ field w 16 4 = f.reason ∧ w.getLsbD 20 = f.write ∧ w.getLsbD 21 = f.priv ∧
      w.getLsbD 22 = f.overflow ∧ w.getLsbD 23 = false ∧ field w 24 8 = f.count := by
  refine ⟨?_, ?_, ?_, ?_, ?_, ?_, ?_⟩ <;> simp (disch := omega) [faultWord]

theorem SourceState.code_toNat (st : SourceState) :
    st.code.toNat =
      (match st with | .idle => 0 | .pending => 1 | .active _ => 2 | .activePending _ => 3 | .queued _ => 4) := by
  cases st <;> rfl

theorem SourceState.targetCode_lt (st : SourceState) : st.targetCode < 8 := by
  cases st <;> simp only [SourceState.targetCode] <;> omega

theorem sourceStatusWord_fields (x : Source) :
    let w := sourceStatusWord x
    (field w 0 3).toNat =
        (match x.state with | .idle => 0 | .pending => 1 | .active _ => 2 | .activePending _ => 3 | .queued _ => 4) ∧
      w.getLsbD 3 = false ∧ w.getLsbD 4 = x.input ∧ field w 5 3 = 0 ∧
      (field w 8 3).toNat =
        (match x.state with | .idle | .pending => 7 | .active t | .activePending t | .queued t => t.val) ∧
      field w 11 5 = 0 ∧ field w 16 8 = x.merge ∧ field w 24 8 = 0 := by
  have hlt := x.state.targetCode_lt
  have htarget : x.state.targetCode =
      (match x.state with | .idle | .pending => 7 | .active t | .activePending t | .queued t => t.val) := by
    cases x.state <;> rfl
  rw [← SourceState.code_toNat, ← htarget]
  refine ⟨?_, ?_, ?_, ?_, ?_, ?_, ?_, ?_⟩ <;> simp (disch := omega) [sourceStatusWord, field_placeNat_toNat]

/-! ### The words of a target (R70 to R72) -/

theorem offerWord_fields (s : State) (t : TargetId) :
    let w := s.offerWord t
    (∀ i, s.candidate t = some i → (field w 0 6).toNat = i.val ∧ field w 8 5 = (s.src i).entry.level) ∧
      (s.candidate t = none → field w 0 6 = 63 ∧ field w 8 5 = 0) ∧ field w 6 2 = 0 ∧ field w 13 3 = 0 ∧
      w.getLsbD 16 = (s.offer t).isSome ∧ field w 17 15 = 0 := by
  intro w
  cases hc : s.candidate t with
  | none =>
    have hw : w = 63 := by simp only [w, State.offerWord, hc]
    have hnone : s.offer t = none := by rw [State.offer, hc]
    rw [hw, hnone]
    exact ⟨nofun, fun _ => by decide, by decide, by decide, by decide, by decide⟩
  | some j =>
    have hj := j.isLt
    have hw : w = placeNat j.val 0 ||| place (s.src j).entry.level 8 ||| bitAt (s.offer t).isSome 16 := by
      simp only [w, State.offerWord, hc]
    rw [hw]
    refine ⟨fun i hi => ?_, nofun, ?_, ?_, ?_, ?_⟩
    · cases hi
      constructor <;> simp (disch := omega) [field_placeNat_toNat]
    all_goals simp (disch := omega)

theorem RunState.code_toNat (st : RunState) :
    st.code.toNat = (match st with | .run => 0 | .pulse _ => 1 | .held => 2) := by
  cases st <;> rfl

theorem stateWord_fields {s : State} {t : TargetId} (hs : (s.tgt t).stack.length ≤ 8)
    (hq : (s.tgt t).urgent.length ≤ 4) :
    let w := s.stateWord t
    field w 0 5 = (s.tgt t).cpl ∧ (field w 5 4).toNat = (s.tgt t).stack.length ∧ w.getLsbD 9 = (s.tgt t).hold ∧
      (field w 10 2).toNat = (match (s.restart t).state with | .run => 0 | .pulse _ => 1 | .held => 2) ∧
      (field w 12 3).toNat = (s.tgt t).urgent.length ∧ w.getLsbD 15 = false ∧
      w.getLsbD 16 = (s.offer t).isSome ∧ w.getLsbD 17 = (s.outputOf t).urg ∧ field w 18 14 = 0 := by
  have hurg : (s.outputOf t).urg = s.urgentOut t := rfl
  rw [← RunState.code_toNat, hurg]
  refine ⟨?_, ?_, ?_, ?_, ?_, ?_, ?_, ?_, ?_⟩ <;> simp (disch := omega) [State.stateWord, field_placeNat_toNat]

theorem field_shiftLeft_of_le {w : Word} {n lo len : Nat} (h : lo + len ≤ n) : field (w <<< n) lo len = 0 := by
  ext i hi
  have hlow : lo + i < n := by omega
  simp [field, hlow]

theorem field_shiftLeft_add {w : Word} {n lo len : Nat} (h : n + lo + len ≤ 32) :
    field (w <<< n) (n + lo) len = field w lo len := by
  apply BitVec.eq_of_getLsbD_eq
  intro i hi
  simp only [field, BitVec.getLsbD_extractLsb', BitVec.getLsbD_shiftLeft, hi, decide_true, Bool.true_and,
    decide_eq_true (by omega : n + lo + i < 32), decide_eq_false (by omega : ¬ n + lo + i < n), Bool.not_false]
  rw [show n + lo + i - n = lo + i by omega]

theorem field_stackHalf_of_ge {lo : Nat} (h : 16 ≤ lo) (o : Option (SourceId × BitVec 5)) (len : Nat) :
    field (stackHalf o) lo len = 0 := by
  have hpow : 2 ^ 16 ≤ 2 ^ lo := Nat.pow_le_pow_right (by decide) h
  cases o with
  | none => exact field_eq_zero_of_lt (lt_of_lt_of_le (by decide) hpow) len
  | some e =>
    have hi := e.1.isLt
    simp (disch := omega) [stackHalf]

/-- Each half of a TGT_STACK word is one position of the stack (R71). -/
theorem field_stackWord (stack : List (SourceId × BitVec 5)) (k : Fin 4) (h : Fin 2) {lo len : Nat} (hlo : lo + len ≤ 16) :
    field (stackWord stack k) (16 * h.val + lo) len = field (stackHalf stack[2 * k.val + h.val]?) lo len := by
  rw [stackWord, field_or]
  match h with
  | 0 =>
    rw [show 16 * (0 : Fin 2).val + lo = lo from Nat.zero_add lo, field_shiftLeft_of_le hlo]
    exact BitVec.or_zero
  | 1 =>
    rw [show 16 * (1 : Fin 2).val + lo = 16 + lo from rfl, field_stackHalf_of_ge (by omega),
      field_shiftLeft_add (by omega)]
    exact BitVec.zero_or

theorem stackHalf_fields (o : Option (SourceId × BitVec 5)) :
    let w := stackHalf o
    (∀ e, o = some e → (field w 0 6).toNat = e.1.val ∧ field w 8 5 = e.2) ∧
      (o = none → field w 0 6 = 63 ∧ field w 8 5 = 0) ∧ field w 6 2 = 0 ∧ field w 13 3 = 0 := by
  cases o with
  | none => exact ⟨nofun, fun _ => by decide, by decide, by decide⟩
  | some e =>
    have hi := e.1.isLt
    refine ⟨fun e' he => ?_, nofun, ?_, ?_⟩
    · cases he
      constructor <;> simp (disch := omega) [stackHalf, field_placeNat_toNat]
    all_goals simp (disch := omega) [stackHalf]

theorem stackWord_fields (stack : List (SourceId × BitVec 5)) (k : Fin 4) (h : Fin 2) :
    let w := stackWord stack k
    (∀ e, stack[2 * k.val + h.val]? = some e →
        (field w (16 * h.val) 6).toNat = e.1.val ∧ field w (16 * h.val + 8) 5 = e.2) ∧
      (stack[2 * k.val + h.val]? = none → field w (16 * h.val) 6 = 63 ∧ field w (16 * h.val + 8) 5 = 0) ∧
      field w (16 * h.val + 6) 2 = 0 ∧ field w (16 * h.val + 13) 3 = 0 := by
  have hlow : field (stackWord stack k) (16 * h.val) 6 = field (stackHalf stack[2 * k.val + h.val]?) 0 6 :=
    field_stackWord stack k h (lo := 0) (by decide)
  intro w
  rw [hlow, field_stackWord stack k h (lo := 8) (by decide), field_stackWord stack k h (lo := 6) (by decide),
    field_stackWord stack k h (lo := 13) (by decide)]
  exact stackHalf_fields _

theorem urgentPos_lt (q : List SourceId) (k : Nat) : urgentPos q k < 64 := by
  unfold urgentPos
  split <;> omega

theorem field_urgentWord (q : List SourceId) (lost : Byte) (k : Fin 4) :
    (field (urgentWord q lost) (6 * k.val) 6).toNat = urgentPos q k.val := by
  have h0 := urgentPos_lt q 0
  have h1 := urgentPos_lt q 1
  have h2 := urgentPos_lt q 2
  have h3 := urgentPos_lt q 3
  fin_cases k <;> simp (disch := omega) [urgentWord, field_placeNat_toNat]

theorem urgentWord_fields (q : List SourceId) (lost : Byte) :
    let w := urgentWord q lost
    (∀ k : Fin 4,
        (∀ i, q[k.val]? = some i → (field w (6 * k.val) 6).toNat = i.val) ∧
          (q[k.val]? = none → field w (6 * k.val) 6 = 63)) ∧
      field w 24 8 = lost := by
  refine ⟨fun k => ⟨fun i hi => ?_, fun hnone => ?_⟩, ?_⟩
  · rw [field_urgentWord, urgentPos, hi]
  · apply BitVec.eq_of_toNat_eq
    rw [field_urgentWord, urgentPos, hnone]
    rfl
  · have h0 := urgentPos_lt q 0
    have h1 := urgentPos_lt q 1
    have h2 := urgentPos_lt q 2
    have h3 := urgentPos_lt q 3
    simp (disch := omega) [urgentWord]

/-! ### The words of a line (R81, R89, R93, R99) -/

theorem LineRun.code_toNat (st : LineRun) :
    st.code.toNat = (match st with | .stopped => 0 | .running => 1 | .draining => 2) := by
  cases st <;> rfl

theorem lineStatusWord_fields {y : Line} (h : y.Ok) :
    let w := lineStatusWord y
    (field w 0 2).toNat = (match y.state with | .stopped => 0 | .running => 1 | .draining => 2) ∧
      w.getLsbD 2 = y.tx.isSome ∧ w.getLsbD 3 = false ∧ (field w 4 6).toNat = y.prog.rx.length ∧
      (field w 10 6).toNat = y.prog.tx.length ∧ (field w 16 6).toNat = y.serv.rx.length ∧
      (field w 22 6).toNat = y.serv.tx.length ∧ field w 28 4 = 0 := by
  obtain ⟨hprx, hptx, hsrx, hstx⟩ := h.queuesShort
  rw [Config.queueDepth] at hprx hptx hsrx hstx
  rw [← LineRun.code_toNat]
  refine ⟨?_, ?_, ?_, ?_, ?_, ?_, ?_, ?_⟩ <;> simp (disch := omega) [lineStatusWord, field_placeNat_toNat]

theorem Owner.bit_iff (o : Owner) : o.bit = true ↔ o = .service := by cases o <;> simp [Owner.bit]

theorem ownerWord_fields (y : Line) (permit : Bool) :
    let w := ownerWord y permit
    (w.getLsbD 0 = true ↔ y.owner = .service) ∧ w.getLsbD 1 = y.lock ∧ w.getLsbD 2 = permit ∧
      w.getLsbD 3 = (permit && !y.lock) ∧ field w 4 4 = 0 ∧ field w 8 8 = y.denied ∧ field w 16 16 = 0 := by
  refine ⟨?_, ?_, ?_, ?_, ?_, ?_, ?_⟩ <;> simp (disch := omega) [ownerWord, Owner.bit_iff]

theorem lineControlWord_fields (y : Line) :
    let w := lineControlWord y
    (field w 0 2).toNat = (match y.state with | .stopped => 0 | .running => 1 | .draining => 2) ∧ field w 2 30 = 0 := by
  rw [← LineRun.code_toNat]
  constructor <;> simp (disch := omega) [lineControlWord]

theorem threshWord_fields (y : Line) :
    let w := threshWord y
    field w 0 6 = y.rxThresh ∧ field w 6 2 = 0 ∧ field w 8 6 = y.txThresh ∧ field w 14 2 = 0 ∧
      w.getLsbD 16 = y.interest ∧ field w 17 15 = 0 := by
  refine ⟨?_, ?_, ?_, ?_, ?_, ?_⟩ <;> simp (disch := omega) [threshWord]

/-! ### The words of a lane (spec/07, section 7.2) -/

theorem LaneState.code_toNat (st : LaneState) :
    st.code.toNat = (match st with | .idle => 0 | .running _ _ => 1 | .halted => 2 | .waitRecord _ _ => 3) := by
  cases st <;> rfl

theorem laneStatusWord_fields {y : Lane} (h : y.Ok) :
    let w := laneStatusWord y
    (field w 0 2).toNat =
        (match y.state with | .idle => 0 | .running _ _ => 1 | .halted => 2 | .waitRecord _ _ => 3) ∧
      field w 2 2 = 0 ∧ (field w 4 4).toNat = y.queue.length ∧ (field w 8 4).toNat = y.records.length ∧
      (w.getLsbD 12 = true ↔ ∃ r o, y.state = .waitRecord r o) ∧
      (w.getLsbD 13 = true ↔ ∃ j k, y.state = .running j k) ∧
      (w.getLsbD 14 = true ↔ ∃ r, y.state = .waitRecord r .halt) ∧ w.getLsbD 15 = false ∧
      field w 16 8 = y.discarded ∧ field w 24 8 = 0 := by
  have hqueue := h.queueShort
  have hrecords := h.recordsShort
  rw [Config.laneDepth] at hqueue hrecords
  rw [← LaneState.code_toNat]
  refine ⟨?_, ?_, ?_, ?_, ?_, ?_, ?_, ?_, ?_, ?_⟩ <;>
    simp (disch := omega) [laneStatusWord, field_placeNat_toNat]
  case refine_5 | refine_6 => cases y.state <;> simp
  case refine_7 =>
    cases y.state with
    | waitRecord r o => cases o <;> simp
    | _ => simp

theorem currentWord_fields {y : Lane} (h : y.Ok) :
    let w := currentWord y
    (∀ j k, y.state = .running j k →
        field w 0 8 = j.tag ∧ field w 8 8 = 0 ∧ (field w 16 13).toNat = k ∧ field w 29 2 = 0 ∧ w.getLsbD 31 = true) ∧
      ((∀ j k, y.state ≠ .running j k) → w = 0) := by
  intro w
  refine ⟨fun j k hrun => ?_, fun hnot => ?_⟩
  · have hk := (h.currentAdmissible j k hrun).2
    have hlen := j.length.isLt
    have hw : w = place j.tag 0 ||| placeNat k 16 ||| bitAt true 31 := by simp only [w, currentWord, hrun]
    rw [hw]
    refine ⟨?_, ?_, ?_, ?_, ?_⟩ <;> simp (disch := omega) [field_placeNat_toNat]
  · simp only [w, currentWord]

/-! ### The words of timers, targets under restart, and the button (R140, R149) -/

theorem timerStatusWord_fields (y : Timer) :
    let w := timerStatusWord y
    (field w 0 2).toNat = (match y.state with | .stopped => 0 | .running => 1 | .expired => 2) ∧
      field w 2 2 = 0 ∧ w.getLsbD 4 = y.mark ∧ field w 5 3 = 0 ∧ field w 8 8 = y.lost ∧ field w 16 16 = 0 := by
  have hcode : y.state.code.toNat = (match y.state with | .stopped => 0 | .running => 1 | .expired => 2) := by
    cases y.state <;> rfl
  rw [← hcode]
  refine ⟨?_, ?_, ?_, ?_, ?_, ?_⟩ <;> simp (disch := omega) [timerStatusWord]

theorem remainingMilli_eq (st : RunState) (now : Nat) :
    remainingMilli st now = (match st with | .pulse ends => (ends - now + 31999) / 32000 | _ => 0) := by
  cases st <;> rfl

theorem remainingMilli_lt {st : RunState} {now : Nat} (h : ∀ ends, st = .pulse ends → ends ≤ now + 255 * 32000) :
    remainingMilli st now < 256 := by
  rw [remainingMilli_eq]
  cases st with
  | pulse ends => have := h ends rfl; dsimp only; omega
  | _ => exact (by decide : 0 < 256)

theorem restartWord_fields {x : Restart} {now : Nat} (h : ∀ ends, x.state = .pulse ends → ends ≤ now + 255 * 32000) :
    let w := restartWord x now
    (field w 0 2).toNat = (match x.state with | .run => 0 | .pulse _ => 1 | .held => 2) ∧ field w 2 2 = 0 ∧
      (field w 4 3).toNat =
        (match x.cause with | .power => 1 | .service => 2 | .host => 3 | .watchdog => 4 | .button => 5) ∧
      w.getLsbD 7 = false ∧ field w 8 8 = x.count ∧ field w 16 8 = x.merged ∧
      (field w 24 8).toNat = (match x.state with | .pulse ends => (ends - now + 31999) / 32000 | _ => 0) := by
  have hlt := remainingMilli_lt h
  have hcause : x.cause.code.toNat =
      (match x.cause with | .power => 1 | .service => 2 | .host => 3 | .watchdog => 4 | .button => 5) := by
    cases x.cause <;> rfl
  rw [← RunState.code_toNat, ← remainingMilli_eq, ← hcause]
  refine ⟨?_, ?_, ?_, ?_, ?_, ?_, ?_⟩ <;> simp (disch := omega) [restartWord, field_placeNat_toNat]

theorem buttonWord_fields {x : RestartUnit} (h : x.run < 256) (level : Bool) :
    let w := buttonWord x level
    w.getLsbD 0 = level ∧
      (field w 1 2).toNat = (match x.phase with | .released => 0 | .pressing => 1 | .pressed => 2 | .releasing => 3) ∧
      field w 3 5 = 0 ∧ (field w 8 8).toNat = x.run ∧ field w 16 16 = 0 := by
  have hphase : x.phase.code.toNat =
      (match x.phase with | .released => 0 | .pressing => 1 | .pressed => 2 | .releasing => 3) := by
    cases x.phase <;> rfl
  rw [← hphase]
  refine ⟨?_, ?_, ?_, ?_, ?_⟩ <;> simp (disch := omega) [buttonWord, field_placeNat_toNat]

theorem doorbellStatus_fields (s : State) :
    (∀ t : TargetId, s.doorbellStatus.getLsbD t.val = (s.bell t).unread) ∧ field s.doorbellStatus 4 28 = 0 := by
  refine ⟨fun t => ?_, ?_⟩
  · fin_cases t <;> simp (disch := omega) [State.doorbellStatus]
  · simp (disch := omega) [State.doorbellStatus]

/-! ### The items of one value -/

/-- A word that holds one value in its low bits, and zeros above. -/
theorem place_zero_fields {n : Nat} (v : BitVec n) (hn : n ≤ 32) (len : Nat) :
    field (place v 0) 0 n = v ∧ field (place v 0) n len = 0 :=
  ⟨field_place_self (by omega), field_place_of_ge (by omega)⟩

theorem bitAt_zero_fields (b : Bool) : (bitAt b 0).getLsbD 0 = b ∧ field (bitAt b 0) 1 31 = 0 := by
  constructor <;> simp (disch := omega)

theorem vbaseWord_fields (b : BitVec 20) : field (vbaseWord b) 0 12 = 0 ∧ field (vbaseWord b) 12 20 = b := by
  constructor <;> simp (disch := omega) [vbaseWord]

theorem snapWord_fields (s : State) (k : Fin 9) (j : Fin 4) :
    (k.val = 1 + j.val → s.itemWord (.snap k) = s.svc.snap.src[j.val]) ∧
      (k.val = 5 + j.val → s.itemWord (.snap k) = s.svc.snap.tgt[j.val]) := by
  have hj := j.isLt
  simp only [State.itemWord, State.snapWord]
  refine ⟨fun hk => ?_, fun hk => ?_⟩
  · rw [if_neg (by omega), if_pos (by omega), show k.val - 1 = j.val by omega]
    simp [Vector.getD]
  · rw [if_neg (by omega), if_neg (by omega), show k.val - 5 = j.val by omega]
    simp [Vector.getD]

/-- Settles O11: the fields of each word, on the part of the state that its item shows. -/
theorem dispatchWordAndAddressFields : Obligations.DispatchWordAndAddressFields := by
  refine ⟨dispatchWord_fields, dispatchAddress_toNat, fun s => ⟨faultWord_fields _, fun i => sourceStatusWord_fields _,
    fun t hs hq => ⟨offerWord_fields s t, stateWord_fields hs hq, stackWord_fields _, urgentWord_fields _ _⟩,
    fun l hl => ⟨lineStatusWord_fields hl, ownerWord_fields _ _⟩,
    fun n hn => ⟨laneStatusWord_fields hn, currentWord_fields hn⟩, fun n => timerStatusWord_fields _,
    fun t ht => restartWord_fields ht, fun hrun => buttonWord_fields hrun _, ?_, ?_, ?_⟩, fun s => ⟨?_, ?_, ?_⟩⟩
  · exact (place_zero_fields s.alertFlags (by decide) 20).1
  · exact (place_zero_fields s.alertFlags (by decide) 20).2
  · exact doorbellStatus_fields s
  · exact place_zero_fields s.host.waitLimit (by decide) 24
  · exact place_zero_fields s.host.flowCount (by decide) 16
  · refine ⟨fun t => ⟨place_zero_fields _ (by decide) 27, vbaseWord_fields _, place_zero_fields _ (by decide) 29, rfl, rfl⟩,
      fun l => ⟨lineControlWord_fields _, threshWord_fields _, place_zero_fields _ (by decide) 27,
        place_zero_fields _ (by decide) 27, place_zero_fields _ (by decide) 27, bitAt_zero_fields _, bitAt_zero_fields _⟩,
      fun n => place_zero_fields _ (by decide) 24, place_zero_fields _ (by decide) 16,
      fun n => ⟨place_zero_fields _ (by decide) 8, place_zero_fields _ (by decide) 8⟩,
      place_zero_fields _ (by decide) 24, place_zero_fields _ (by decide) 28, place_zero_fields _ (by decide) 20,
      place_zero_fields _ (by decide) 24, place_zero_fields _ (by decide) 16, snapWord_fields s,
      fun it h => itemWord_of_write h s⟩

end Sys2Proof.Machine
end


section
/-! PROOFS. Queues, settings and ownership of a line under command (spec/05, spec/06): LINE_RX, LINE_TX, POP and PUSH, the
writes of a line's settings and flags, and the ownership commands. Settles O36, O37 and O38. -/

namespace Sys2Proof.Machine

open Sys2Proof

/-! ### Host reads and service commands, by their outcome -/

@[simp] theorem State.rxRefusal_enter (s : State) (m : Moment) (l : LineId) : (s.enter m).rxRefusal l = s.rxRefusal l := by
  simp only [State.rxRefusal, State.lane_enter, State.line_enter]

/-- A host read of an item by its row is the read of that item on what the step finds (R161). -/
theorem exec_read_of_free {s : State} (hf : s.hostFree) {c : Instr} {priv : Bool} {num : ItemNumber}
    (hc : c.access = some (false, priv, num, 0)) {it : Item} (hd : decodeItem num = some it) :
    exec c s = .next (endOfStep (hostRead (s.enter c.moment) num priv it)) := by
  rw [exec_of_access hc, exec_hostTransactionBegin_read hf _ priv hd]

/-- A host read that is refused for a state reason (R161). -/
theorem exec_read_refused {s : State} (hf : s.hostFree) {c : Instr} {priv : Bool} {num : ItemNumber}
    (hc : c.access = some (false, priv, num, 0)) {it : Item} (hd : decodeItem num = some it) (ha : hostAccess it ≠ .none)
    (hw : ∀ l, it ≠ .line l .rxWait) {r : Reason} (hr : (s.enter c.moment).readRefusal it = some r) :
    exec c s = .next (endOfStep ((s.enter c.moment).hostRefused num r false priv)) := by
  rw [exec_read_of_free hf hc hd, hostRead_refused ha hw hr]

/-- A host read that is done, by the state it leaves and the word it returns (R161, R163). -/
theorem exec_read_leaves {s u : State} (hf : s.hostFree) {c : Instr} {priv : Bool} {num : ItemNumber}
    (hc : c.access = some (false, priv, num, 0)) {it : Item} (hd : decodeItem num = some it) (ha : hostAccess it ≠ .none)
    (hw : ∀ l, it ≠ .line l .rxWait) (hr : (s.enter c.moment).readRefusal it = none) {w : Word}
    (hu : consume (s.enter c.moment) it = u) (hword : (s.enter c.moment).itemWord it = w) :
    exec c s = .next (endOfStep (u.hostDone w)) := by
  rw [exec_read_of_free hf hc hd, hostRead_done ha hw hr, hu, hword]

/-- A read-type command of the service port, by what it answers on the state it finds. -/
theorem readCommand_answers {s : State} {m : Moment} (h : s.svcFree m) {code : Byte} {arg : BitVec 16}
    {act : State → Reply} {u : State} {r : Reason} {w : Word} (he : act (s.arrive m) = ⟨u, r, w⟩) :
    ReadFrame (s.arrive m) (readCommand m code arg act s) u code arg r w := by
  have hframe := readCommand_frame h code arg act
  rwa [he] at hframe

/-- A write-type command of the service port, by what it answers on the state it finds. -/
theorem writeCommand_answers {s : State} {m : Moment} (h : s.svcFree m) {code : Byte} {arg : BitVec 16} {data : Word}
    {act : State → Reply} {u : State} {r : Reason} (he : act (s.arrive m) = ⟨u, r, 0⟩) :
    WriteFrame (s.arrive m) (writeCommand m code arg data act s) u r code arg data := by
  have hframe := writeCommand_frame h code arg data act
  rwa [he] at hframe

/-! ### The line that an argument names (R21) -/

/-- The argument of a command on this line. -/
def argOfLine : LineId → BitVec 16
  | .a => 0
  | .b => 1

theorem lineOfArg_argOfLine (l : LineId) : lineOfArg (argOfLine l) = some l := by cases l <;> rfl

theorem lineOfArg_of_le {arg : BitVec 16} (h : 2 ≤ arg.toNat) : lineOfArg arg = none := by
  have hzero : arg ≠ 0 := fun h0 => by simp [h0] at h
  have hone : arg ≠ 1 := fun h1 => by simp [h1] at h
  rw [lineOfArg, if_neg hzero, if_neg hone]

theorem noLine_refused {arg : BitVec 16} (h : 2 ≤ arg.toNat) (data : Word) (s : State) :
    popCommand arg s = ⟨s, .badValue, 0⟩ ∧ pushCommand arg data s = ⟨s, .badValue, 0⟩ ∧
      seizeCommand arg s = ⟨s, .badValue, 0⟩ ∧ yieldCommand arg s = ⟨s, .badValue, 0⟩ := by
  simp only [popCommand, pushCommand, seizeCommand, yieldCommand, lineOfArg_of_le h, refuseCommand, and_self]

/-! ### LINE_RX and LINE_TX (R86 to R88) -/

theorem rxWord_fields {left : Nat} (e : RxEntry) (h : left ≤ 31) :
    (rxWord e left).extractLsb' 0 8 = e.value ∧ (rxWord e left).getLsbD 8 = e.parity ∧
      (rxWord e left).getLsbD 9 = e.framing ∧ (rxWord e left).getLsbD 10 = e.brk ∧
      (rxWord e left).extractLsb' 11 5 = 0 ∧ ((rxWord e left).extractLsb' 16 16).toNat = left := by
  simp only [field_eq_extract]
  refine ⟨?_, ?_, ?_, ?_, ?_, ?_⟩ <;> simp (disch := omega) [rxWord, field_placeNat_toNat]

section HostQueues
variable {s : State} {m : Moment} {l : LineId} {priv : Bool} (hf : s.hostFree)
include hf

theorem exec_lineRx_refused {r : Reason} (hr : s.rxRefusal l = some r) :
    exec (.lineRx m priv l) s =
      .next (endOfStep ((s.enter m).hostRefused (Item.line l .rx).number r false priv)) :=
  exec_read_refused hf rfl (decodeItem_number (.line l .rx)) nofun nofun ((State.rxRefusal_enter s m l).trans hr)

theorem exec_lineRx_done {e : RxEntry} {rest : List RxEntry} (hr : s.rxRefusal l = none)
    (hrx : (s.line l).prog.rx = e :: rest) :
    exec (.lineRx m priv l) s =
      .next (endOfStep (((s.enter m).setLine l
        { s.line l with prog := { (s.line l).prog with rx := rest } }).hostDone (rxWord e rest.length))) := by
  refine exec_read_leaves hf rfl (decodeItem_number (.line l .rx)) nofun nofun
    ((State.rxRefusal_enter s m l).trans hr) ?_ ?_
  · simp only [consume, popEntry, State.line_enter, Line.setChan, Line.chan, hrx, List.tail_cons, Instr.moment]
  · simp only [State.itemWord, State.lineWord, State.line_enter, hrx, rxHeadWord]

end HostQueues

/-! ### POP and PUSH (R28) -/

section ServiceQueues
variable {u : State} {l : LineId} {y : Line} (hl : u.line l = y)
include hl

theorem popCommand_empty (h : y.serv.rx = []) : popCommand (argOfLine l) u = ⟨u, .empty, 0⟩ := by
  simp only [popCommand, lineOfArg_argOfLine, hl, h, List.isEmpty_nil, if_true, refuseCommand]

theorem popCommand_done {e : RxEntry} {rest : List RxEntry} (h : y.serv.rx = e :: rest) :
    popCommand (argOfLine l) u =
      ⟨u.setLine l { y with serv := { y.serv with rx := rest } }, .ok, rxWord e rest.length⟩ := by
  simp only [popCommand, lineOfArg_argOfLine, hl, h, List.isEmpty_cons, Bool.false_eq_true, if_false, popEntry,
    Line.setChan, Line.chan, List.tail_cons, rxHeadWord]

theorem pushCommand_full (h : 32 ≤ y.serv.tx.length) (data : Word) :
    pushCommand (argOfLine l) data u = ⟨u, .full, 0⟩ := by
  subst hl
  rw [pushCommand, lineOfArg_argOfLine]
  exact if_pos h

theorem pushCommand_done (h : y.serv.tx.length < 32) (data : Word) :
    pushCommand (argOfLine l) data u =
      ⟨u.setLine l { y with serv := { y.serv with tx := y.serv.tx ++ [data.extractLsb' 0 8] } }, .ok, 0⟩ := by
  subst hl
  rw [pushCommand, lineOfArg_argOfLine]
  exact if_neg (Nat.not_le.2 h)

end ServiceQueues

/-- Settles O36. -/
theorem characterQueueAccesses : Obligations.CharacterQueueAccesses := by
  refine ⟨fun m s l priv data => ?_, fun e left h => rxWord_fields e h⟩
  intro x a y num arg
  have harg : arg = argOfLine l := by cases l <;> rfl
  have hline : a.line l = s.line l := State.line_arrive s m l
  have htx : hostAccess (.line l .tx) = .readWrite ∨ hostAccess (.line l .tx) = .write := .inr rfl
  rw [harg]
  refine ⟨fun hf => ⟨fun hbusy => ?_, fun hidle hrx => ?_, fun e rest hidle hrx => ?_, fun hbusy => ?_,
    fun hidle hfull => ?_, fun hidle hroom => ?_⟩, fun hf => ⟨fun hrx => ?_, fun e rest hrx => ?_, fun hfull => ?_,
    fun hroom => ?_, fun other ho => ?_⟩⟩
  · exact exec_lineRx_refused hf (rxRefusal_of_busy hbusy)
  · exact exec_lineRx_refused hf ((rxRefusal_of_idle hidle).trans (if_pos hrx))
  · exact exec_lineRx_done hf ((rxRefusal_of_idle hidle).trans (if_neg (by rw [hrx]; exact nofun))) hrx
  · exact exec_write_refused hf rfl (decodeItem_number (.line l .tx)) htx nofun rfl nofun (txRefusal_of_busy hbusy)
  · exact exec_write_refused hf rfl (decodeItem_number (.line l .tx)) htx nofun rfl nofun
      ((txRefusal_of_idle hidle).trans (if_pos hfull))
  · refine exec_write_leaves hf rfl (decodeItem_number (.line l .tx)) htx nofun rfl nofun
      ((txRefusal_of_idle hidle).trans (if_neg (Nat.not_le.2 hroom))) ?_
    simp only [writeItem, writeLine, pushChar, State.line_enter, Line.setChan, Line.chan, Instr.moment, field]
    rfl
  · exact ⟨_, rfl, readCommand_answers hf (popCommand_empty hline hrx)⟩
  · exact ⟨_, rfl, readCommand_answers hf (popCommand_done hline hrx)⟩
  · exact ⟨_, rfl, writeCommand_answers hf (pushCommand_full hline hfull data)⟩
  · exact ⟨_, rfl, writeCommand_answers hf (pushCommand_done hline hroom data)⟩
  · obtain ⟨hpop, hpush, -⟩ := noLine_refused ho data a
    exact ⟨⟨_, rfl, readCommand_answers hf hpop⟩, ⟨_, rfl, writeCommand_answers hf hpush⟩⟩

/-! ### The settings and flags of a line (R79, R92, R93, R95, R101, R111) -/

theorem badThreshold_iff (v : BitVec 6) : badThreshold v = true ↔ ¬ (1 ≤ v.toNat ∧ v.toNat ≤ 32) := by
  have hzero : v = 0 ↔ v.toNat = 0 := BitVec.toNat_inj.symm
  simp only [badThreshold, Bool.or_eq_true, decide_eq_true_eq, hzero]
  omega

theorem badValue_thresh (s : State) (l : LineId) (data : Word) :
    s.badValue (.line l .thresh) data = true ↔
      ¬ (1 ≤ (data.extractLsb' 0 6).toNat ∧ (data.extractLsb' 0 6).toNat ≤ 32 ∧ 1 ≤ (data.extractLsb' 8 6).toNat ∧
        (data.extractLsb' 8 6).toNat ≤ 32) := by
  simp only [State.badValue, Bool.or_eq_true, badThreshold_iff, field]
  omega

theorem CtlChars.clash_iff (c : CtlChars) :
    c.clash = true ↔ c.seize = c.yield ∨ c.seize = c.attention ∨ c.yield = c.attention := by
  simp only [CtlChars.clash, Bool.or_eq_true, decide_eq_true_eq, or_assoc]

/-- Settles O37. -/
theorem lineSettingsAndFlagWrites : Obligations.LineSettingsAndFlagWrites := by
  intro m s l priv data x a y num rxT txT c flags
  have hx : x.line l = y := State.line_enter s m l
  have ha : a.line l = y := State.line_arrive s m l
  have hformat (h : data.extractLsb' 8 2 ≠ 3) : s.badValue (.line l .format) data = false := decide_eq_false h
  refine ⟨fun hf => ⟨fun h3 => ?_, fun h3 hrun => ?_, fun h3 hstop => ?_, fun hgood => ?_, fun hbad => ?_, ?_, fun hgood => ?_,
    fun hbad => ?_, ?_, ?_⟩, fun hf => ⟨?_, ?_⟩⟩
  · exact exec_write_badValue hf rfl (decodeItem_number (.line l .format)) (.inl rfl) (.inl rfl) (decide_eq_true h3)
  · exact exec_write_refused hf rfl (decodeItem_number (.line l .format)) (.inl rfl) nofun (hformat h3) nofun (if_neg hrun)
  · exact exec_write_leaves hf rfl (decodeItem_number (.line l .format)) (.inl rfl) nofun (hformat h3) nofun (if_pos hstop)
      (congrArg (fun z : Line => x.setLine l { z with format := formatOfWord data }) hx)
  · have hv : s.badValue (.line l .thresh) data = false :=
      Bool.eq_false_iff.2 fun hb => (badValue_thresh s l data).1 hb hgood
    exact exec_write_leaves hf rfl (decodeItem_number (.line l .thresh)) (.inl rfl) nofun hv nofun rfl
      (congrArg (fun z : Line => x.setLine l { z with rxThresh := rxT, txThresh := txT, interest := data.getLsbD 16 }) hx)
  · exact exec_write_badValue hf rfl (decodeItem_number (.line l .thresh)) (.inl rfl) (.inl rfl)
      ((badValue_thresh s l data).2 hbad)
  · exact exec_write_leaves hf rfl (decodeItem_number (.line l .alarmMask)) (.inl rfl) nofun rfl nofun rfl
      (congrArg (fun z : Line => x.setLine l { z with alarmMask := flags }) hx)
  · have hv : c.clash = false := Bool.eq_false_iff.2 fun hb => by
      obtain ⟨h1, h2, h3⟩ := hgood
      rcases (CtlChars.clash_iff c).1 hb with h | h | h <;> contradiction
    exact exec_write_leaves hf rfl (decodeItem_number (.line l .ctlchars)) (.inl rfl) nofun hv nofun rfl
      (congrArg (fun z : Line => x.setLine l { z with ctl := c }) hx)
  · exact exec_write_badValue hf rfl (decodeItem_number (.line l .ctlchars)) (.inl rfl) (.inl rfl)
      ((CtlChars.clash_iff c).2 hbad)
  · exact exec_write_leaves hf rfl (decodeItem_number (.line l .pecho)) (.inl rfl) nofun rfl nofun rfl
      (congrArg (fun z : Line => x.setLine l { z with prog := { z.prog with echo := data.getLsbD 0 } }) hx)
  · exact exec_write_leaves hf rfl (decodeItem_number (.line l .perr)) (.inl rfl) nofun rfl nofun rfl
      (congrArg (fun z : Line => x.setLine l { z with prog := { z.prog with flags := z.prog.flags &&& ~~~flags } }) hx)
  · exact exec_write_frame_leaves hf (.line l .secho) rfl rfl
      (congrArg (fun z : Line => a.setLine l { z with serv := { z.serv with echo := data.getLsbD 0 } }) ha)
  · exact exec_write_frame_leaves hf (.line l .serr) rfl rfl
      (congrArg (fun z : Line => a.setLine l { z with serv := { z.serv with flags := z.serv.flags &&& ~~~flags } }) ha)

/-! ### Ownership (R105 to R109) -/

section Ownership
variable {u : State} {l : LineId} {y : Line} (hl : u.line l = y)
include hl

theorem changeOwner_eq (o : Owner) :
    changeOwner u l o = (u.setLine l { y with owner := o }).raise (ownershipSource l) := by
  rw [changeOwner, hl]

theorem releaseLine_of_program (h : y.owner = .program) :
    releaseLine u l = (u.setLine l { y with owner := .service }).raise (ownershipSource l) := by
  rw [releaseLine, hl, h]
  exact changeOwner_eq hl .service

theorem releaseLine_of_service (h : y.owner = .service) : releaseLine u l = u := by
  rw [releaseLine, hl, h]

theorem yieldLine_of_service (h : y.owner = .service) :
    yieldLine u l = (u.setLine l { y with owner := .program }).raise (ownershipSource l) := by
  rw [yieldLine, hl, h]
  exact changeOwner_eq hl .program

theorem yieldLine_of_program (h : y.owner = .program) : yieldLine u l = u := by
  rw [yieldLine, hl, h]

theorem reclaimLine_of_program (h : y.owner = .program) : reclaimLine u l = u.setLine l { y with lock := true } := by
  rw [reclaimLine, hl, h]
  dsimp only
  rw [hl, h]

/-- A reclaim from the service port: the change of owner, RECLAIM_x, and the lock (R106). -/
theorem reclaimLine_of_service (h : y.owner = .service) :
    reclaimLine u l =
      ((u.setLine l { y with owner := .program, lock := true }).raise (ownershipSource l)).setSticky (reclaimBit l) := by
  rw [reclaimLine, hl, h]
  dsimp only
  rw [changeOwner_eq hl]
  cases l <;> rfl

theorem seize_of_service (h : y.owner = .service) : seize u l = u ∧ u.seizeDenied l = false := by
  constructor
  · rw [seize, hl, h]
  · rw [State.seizeDenied, hl, h]
    rfl

theorem seizePermitted_iff : u.seizePermitted l = true ↔ u.pins.seizePermit = true ∧ y.lock = false := by
  rw [State.seizePermitted, hl, Bool.and_eq_true, Bool.not_eq_true']

theorem seize_of_permitted (h : y.owner = .program) (hp : u.pins.seizePermit = true ∧ y.lock = false) :
    seize u l = (u.setLine l { y with owner := .service }).raise (ownershipSource l) ∧ u.seizeDenied l = false := by
  have hperm := (seizePermitted_iff hl).2 hp
  constructor
  · rw [seize, hl, h]
    exact (if_pos hperm).trans (changeOwner_eq hl .service)
  · rw [State.seizeDenied, hperm]
    exact Bool.and_false _

theorem seize_of_denied (h : y.owner = .program) (hp : ¬ (u.pins.seizePermit = true ∧ y.lock = false)) :
    seize u l =
        (u.setLine l { y with denied := if y.denied = 255 then 255 else y.denied + 1 }).setSticky (deniedBit l) ∧
      u.seizeDenied l = true := by
  have hperm : ¬ u.seizePermitted l = true := fun hs => hp ((seizePermitted_iff hl).1 hs)
  constructor
  · rw [seize, hl, h]
    refine (if_neg hperm).trans ?_
    rw [denySeize, hl, satInc_byte, ← h]
  · rw [State.seizeDenied, hl, h, Bool.eq_false_iff.2 hperm]
    rfl

end Ownership

theorem seizeCommand_argOfLine (l : LineId) (u : State) :
    seizeCommand (argOfLine l) u = ⟨seize u l, if u.seizeDenied l then .seizeDenied else .ok, 0⟩ := by
  rw [seizeCommand, lineOfArg_argOfLine]

theorem yieldCommand_argOfLine (l : LineId) (u : State) : yieldCommand (argOfLine l) u = ⟨yieldLine u l, .ok, 0⟩ := by
  rw [yieldCommand, lineOfArg_argOfLine]

/-- SEIZE_LINE, by what `seize` makes of the state and whether it is denied (R108). -/
theorem seizeCommand_answers {u v : State} {l : LineId} {b : Bool} (h : seize u l = v ∧ u.seizeDenied l = b) :
    seizeCommand (argOfLine l) u = ⟨v, if b then .seizeDenied else .ok, 0⟩ := by
  rw [seizeCommand_argOfLine, h.1, h.2]

/-- Settles O38. -/
theorem ownershipCommands : Obligations.OwnershipCommands := by
  intro m s l priv data x a y num arg k edge permitted toService toProgram denied
  have hx : x.line l = y := State.line_enter s m l
  have ha : a.line l = y := State.line_arrive s m l
  have harg : arg = argOfLine l := by cases l <;> rfl
  have hedge : edge = ownershipSource l := by cases l <;> rfl
  have hreclaim : 2 + k = reclaimBit l := by cases l <;> rfl
  have hdenied : 4 + k = deniedBit l := by cases l <;> rfl
  have hservice (u : State) : toService u = (u.setLine l { y with owner := .service }).raise (ownershipSource l) := by
    rw [← hedge]
  have hprogram (u : State) : toProgram u = (u.setLine l { y with owner := .program }).raise (ownershipSource l) := by
    rw [← hedge]
  rw [harg]
  refine ⟨fun hf => ⟨fun ho => ?_, fun ho => ?_, fun ho => ?_, fun ho => ?_, ?_, ?_, ?_⟩, fun hf => ⟨fun ho hp => ?_,
    fun ho hp => ?_, fun ho => ?_, fun ho => ?_, fun ho => ?_, fun other hother => ?_⟩⟩
  · exact exec_write_leaves hf rfl (decodeItem_number (.line l .release)) (.inr rfl) nofun rfl nofun rfl
      ((releaseLine_of_program hx ho).trans (hservice x).symm)
  · exact exec_write_leaves hf rfl (decodeItem_number (.line l .release)) (.inr rfl) nofun rfl nofun rfl
      (releaseLine_of_service hx ho)
  · rw [hreclaim, hedge]
    exact exec_write_leaves hf rfl (decodeItem_number (.line l .reclaim)) (.inr rfl) (fun _ => rfl) rfl nofun rfl
      (reclaimLine_of_service hx ho)
  · exact exec_write_leaves hf rfl (decodeItem_number (.line l .reclaim)) (.inr rfl) (fun _ => rfl) rfl nofun rfl
      (reclaimLine_of_program hx ho)
  · exact exec_write_protected hf rfl (decodeItem_number (.line l .reclaim)) (.inr rfl) rfl
  · exact exec_write_leaves hf rfl (decodeItem_number (.line l .unlock)) (.inr rfl) (fun _ => rfl) rfl nofun rfl
      (congrArg (fun z : Line => x.setLine l { z with lock := false }) hx)
  · exact exec_write_protected hf rfl (decodeItem_number (.line l .unlock)) (.inr rfl) rfl
  · rw [hservice]
    exact ⟨_, rfl, writeCommand_answers hf (seizeCommand_answers (seize_of_permitted ha ho hp))⟩
  · have hseize := seize_of_denied ha ho hp
    rw [← hdenied] at hseize
    exact ⟨_, rfl, writeCommand_answers hf (seizeCommand_answers hseize)⟩
  · exact ⟨_, rfl, writeCommand_answers hf (seizeCommand_answers (seize_of_service ha ho))⟩
  · rw [hprogram]
    exact ⟨_, rfl, writeCommand_answers hf ((yieldCommand_argOfLine l a).trans (by rw [yieldLine_of_service ha ho]))⟩
  · exact ⟨_, rfl, writeCommand_answers hf ((yieldCommand_argOfLine l a).trans (by rw [yieldLine_of_program ha ho]))⟩
  · obtain ⟨-, -, hseize, hyield⟩ := noLine_refused hother data a
    exact ⟨⟨_, rfl, writeCommand_answers hf hseize⟩, ⟨_, rfl, writeCommand_answers hf hyield⟩⟩

end Sys2Proof.Machine
end


section
/-! PROOFS. The receiver and the transmitter of a line (spec/05, spec/06): what a completed frame does, the samples of the
grid, and the characters sent. Settles O40, O41 and O42. -/

namespace Sys2Proof.Machine

open Sys2Proof

@[simp] theorem State.setLine_setLine (s : State) (l : LineId) (x y : Line) : (s.setLine l x).setLine l y = s.setLine l y := by
  cases l <;> rfl

theorem State.lateTo_eq_advanceTo (s : State) (n : Nat) : s.lateTo n = s.advanceTo n := rfl

/-! ### The frame delivered (R83, R114) -/

section Complete
variable {u : State} {l : LineId} {y : Line} {given : Option RawFrame} (hl : u.line l = y)
include hl

theorem completeReceive_of_not_running (h : y.state ≠ .running) : completeReceive u l given = u := by
  rw [completeReceive, hl]
  exact if_neg h

theorem completeReceive_of_noFrame (h : y.frameOf u.now given = none) : completeReceive u l given = u := by
  rw [completeReceive, hl]
  dsimp only
  rw [h]
  split_ifs <;> rfl

theorem completeReceive_of_frame (h : y.state = .running) {raw : RawFrame} (hframe : y.frameOf u.now given = some raw) :
    completeReceive u l given =
      deliverEntry (u.setLine l { y with rx := { y.rx with phase := phaseAfter (judge y.format raw), fresh := u.now } }) l
        (judge y.format raw) := by
  rw [completeReceive, hl]
  refine (if_pos h).trans ?_
  rw [hframe]

end Complete

theorem Line.frameOf_none {y : Line} {now : Nat} {given : Option RawFrame}
    (h : (given = none ∧ ∀ r, y.rx.phase ≠ .complete r) ∨ (∃ raw, given = some raw) ∧ ¬ y.rx.fresh + y.frameTime ≤ now) :
    y.frameOf now given = none := by
  unfold Line.frameOf
  rcases h with ⟨rfl, hphase⟩ | ⟨⟨raw, rfl⟩, hlate⟩
  · dsimp only
    split
    · next r hr => exact absurd hr (hphase r)
    · rfl
  · exact if_neg hlate

theorem Line.frameOf_some {y : Line} {now : Nat} {given : Option RawFrame} {raw : RawFrame}
    (h : (given = some raw ∧ y.rx.fresh + y.frameTime ≤ now) ∨ (given = none ∧ y.rx.phase = .complete raw)) :
    y.frameOf now given = some raw := by
  unfold Line.frameOf
  rcases h with ⟨rfl, htime⟩ | ⟨rfl, hphase⟩
  · exact if_pos htime
  · dsimp only
    rw [hphase]

/-! ### The arbiter (R101 to R104) and the owner's channel (R85, R112) -/

/-- A frame on which recognition acts (R101): recognition on, and a character frame without marks. -/
theorem recognises_iff (c : CtlChars) (e : RxEntry) :
    (c.recognition && e.unmarked) = true ↔
      c.recognition = true ∧ e.parity = false ∧ e.framing = false ∧ e.brk = false := by
  simp only [RxEntry.unmarked, Bool.and_eq_true, Bool.not_eq_true', and_assoc]

section Recognise
variable {c : CtlChars} {e : RxEntry}

theorem recognise_seize (h : (c.recognition && e.unmarked) = true) (hs : e.value = c.seize) :
    c.recognise e = some .seize := by
  rw [CtlChars.recognise, if_pos h, if_pos hs]

theorem recognise_yield (h : (c.recognition && e.unmarked) = true) (hs : e.value ≠ c.seize) (hy : e.value = c.yield) :
    c.recognise e = some .yield := by
  rw [CtlChars.recognise, if_pos h, if_neg hs, if_pos hy]

theorem recognise_attention (h : (c.recognition && e.unmarked) = true) (hs : e.value ≠ c.seize) (hy : e.value ≠ c.yield)
    (ha : e.value = c.attention) : c.recognise e = some .attention := by
  rw [CtlChars.recognise, if_pos h, if_neg hs, if_neg hy, if_pos ha]

theorem recognise_none
    (h : ¬ (c.recognition && e.unmarked) = true ∨ (e.value ≠ c.seize ∧ e.value ≠ c.yield ∧ e.value ≠ c.attention)) :
    c.recognise e = none := by
  unfold CtlChars.recognise
  split
  · next hplain =>
    obtain ⟨hs, hy, ha⟩ := h.resolve_left (not_not_intro hplain)
    rw [if_neg hs, if_neg hy, if_neg ha]
  · rfl

end Recognise

/-- The entry is appended, dropped, echoed and flagged as spec/05 and spec/06 list it. -/
theorem Channel.receive_eq_taking (c : Channel) (e : RxEntry) : c.receive e = c.taking e := by
  have hunmarked : e.unmarked = (!e.parity && !e.framing && !e.brk) := rfl
  unfold Channel.receive Channel.taking
  by_cases hrx : c.rx.length < Config.queueDepth
  · rw [if_pos hrx, if_neg (Nat.not_le.2 hrx)]
    cases hecho : c.echo && e.unmarked with
    | false =>
      have hno : (c.echo && !e.parity && !e.framing && !e.brk) = false := by
        rw [← hecho, hunmarked, Bool.and_assoc, Bool.and_assoc, Bool.and_assoc]
      simp [Channel.echoed, Channel.setFlags, entryFlags, hecho, hno, BitVec.or_assoc]
    | true =>
      have hyes : (c.echo && !e.parity && !e.framing && !e.brk) = true := by
        rw [← hecho, hunmarked, Bool.and_assoc, Bool.and_assoc, Bool.and_assoc]
      by_cases htx : c.tx.length < Config.queueDepth
      · simp [Channel.echoed, Channel.setFlags, entryFlags, hecho, hyes, htx, Nat.not_le.2 htx, BitVec.or_assoc]
      · simp [Channel.echoed, Channel.setFlags, entryFlags, echoLostFlag, hecho, hyes, htx, Nat.not_lt.1 htx,
          BitVec.or_assoc]
  · rw [if_neg hrx, if_pos (Nat.not_lt.1 hrx)]
    rfl

theorem Line.setChan_taking (z : Line) (o : Owner) (e : RxEntry) :
    z.setChan o ((z.chan o).taking e) =
      match o with
      | .program => { z with prog := z.prog.taking e }
      | .service => { z with serv := z.serv.taking e } := by
  cases o <;> rfl

theorem Line.storeEntry_eq (z : Line) (e : RxEntry) :
    z.storeEntry e =
      match z.owner with
      | .program => { z with prog := z.prog.taking e }
      | .service => { z with serv := z.serv.taking e } := by
  rw [Line.storeEntry, Channel.receive_eq_taking, Line.setChan_taking]

section Deliver
variable {v : State} {l : LineId} {z : Line} {e : RxEntry} (hz : v.line l = z)
include hz

theorem deliverEntry_seize (h : z.ctl.recognise e = some .seize) : deliverEntry v l e = seize v l := by
  rw [deliverEntry, hz, h]

theorem deliverEntry_yield (h : z.ctl.recognise e = some .yield) : deliverEntry v l e = yieldLine v l := by
  rw [deliverEntry, hz, h]

theorem deliverEntry_attention (h : z.ctl.recognise e = some .attention) : deliverEntry v l e = attention v l := by
  rw [deliverEntry, hz, h]

theorem deliverEntry_store (h : z.ctl.recognise e = none) : deliverEntry v l e = v.setLine l (z.storeEntry e) := by
  rw [deliverEntry, hz, h]

end Deliver

theorem exec_receiverCompletion_of_high {s : State} (hs : s.inReset = false) (m : Moment) (l : LineId)
    (given : Option RawFrame) :
    exec (.receiverCompletion m l given) s = .next (endOfStep (completeReceive (s.enter m) l given)) :=
  congrArg Host.Outcome.next (takeStep_of_high hs ..)

/-- Settles O40: the frame is judged, the receiver begins afresh, and the entry is delivered on the line that leaves. -/
theorem receiverCompletionDeliversTheFrame : Obligations.ReceiverCompletionDeliversTheFrame := by
  intro m s l given raw hs x y c e z sampled inTime plain permitted k change call
  have hx : x.line l = y := State.line_enter s m l
  have hchange : change = ownershipSource l := by cases l <;> rfl
  have hcall : call = attentionSource l := by cases l <;> rfl
  have hattn : k = attnBit l := by cases l <;> rfl
  have hdenied : 4 + k = deniedBit l := by cases l <;> rfl
  have hz : (x.setLine l z).line l = z := State.line_setLine_self ..
  rw [exec_receiverCompletion_of_high hs]
  refine ⟨fun hstop => ?_, fun hrun hg hphase => ?_, fun hrun hg hlate => ?_, fun hrun hframe => ?_⟩
  · rw [completeReceive_of_not_running hx hstop]
  · rw [completeReceive_of_noFrame hx (Line.frameOf_none (.inl ⟨hg, hphase⟩))]
  · rw [completeReceive_of_noFrame hx (Line.frameOf_none (.inr ⟨⟨raw, hg⟩, hlate⟩))]
  have hdeliver : completeReceive x l given = deliverEntry (x.setLine l z) l e :=
    completeReceive_of_frame hx hrun
      (Line.frameOf_some (hframe.imp (fun h => ⟨h.1, h.2⟩) (fun h => ⟨h.1, h.2⟩)))
  have hpermitted : ((x.setLine l z).pins.seizePermit = true ∧ z.lock = false) ↔ permitted := by
    rw [State.setLine_pins]
    rfl
  have hplain : plain ↔ (z.ctl.recognition && e.unmarked) = true := (recognises_iff z.ctl e).symm
  rw [hdeliver, hchange, hcall, hdenied, hattn]
  refine ⟨fun hp hseize => ?_, fun hp hseize hyield => ?_, fun hp hseize hyield hatt => ?_, fun hother => ?_⟩
  · rw [deliverEntry_seize hz (recognise_seize (hplain.1 hp) hseize)]
    refine ⟨fun ho => ?_, fun ho hperm => ?_, fun ho hperm => ?_⟩
    · rw [(seize_of_service hz ho).1]
    · rw [(seize_of_permitted hz ho (hpermitted.2 hperm)).1, State.setLine_setLine]
    · rw [(seize_of_denied hz ho (mt hpermitted.1 hperm)).1, State.setLine_setLine]
  · rw [deliverEntry_yield hz (recognise_yield (hplain.1 hp) hseize hyield)]
    refine ⟨fun ho => ?_, fun ho => ?_⟩
    · rw [yieldLine_of_program hz ho]
    · rw [yieldLine_of_service hz ho, State.setLine_setLine]
  · rw [deliverEntry_attention hz (recognise_attention (hplain.1 hp) hseize hyield hatt), attention]
  · rw [deliverEntry_store hz (recognise_none (hother.imp (mt hplain.2) id)), State.setLine_setLine]
    exact congrArg (fun w => Host.Outcome.next (endOfStep (x.setLine l w))) (Line.storeEntry_eq z e)

/-! ### The samples of the receiver (R82 to R84) -/

theorem exec_receiverSample_of_high {s : State} (hs : s.inReset = false) (m : Moment) (l : LineId) :
    exec (.receiverSample m l) s = .next (sampleReceiver (s.enter m) l) :=
  congrArg Host.Outcome.next (if_neg (by simp [hs]))

/-- A sample moves the receiver's condition by `RxPhase.sample` and its place on the grid; nothing else. -/
theorem sampleReceiver_of_running {u : State} {l : LineId} {y : Line} (hl : u.line l = y) (h : y.state = .running)
    {p q : RxPhase} (hp : y.rx.phase = p) (hq : p.sample y.format (rxdLevel u.pins l) = q) :
    sampleReceiver u l =
      (u.lateTo (y.rx.origin + y.nextSample u.now * bitTime y.format.rate / 16)).setLine l
        { y with rx := { y.rx with phase := q, index := y.nextSample u.now } } := by
  subst hl hp hq
  exact if_pos h

/-- Settles O41. -/
theorem receiverSamplesFollowTheGrid : Obligations.ReceiverSamplesFollowTheGrid := by
  refine ⟨fun m s l hs => ?_, rfl⟩
  intro x y bt k mark after bits
  have hx : x.line l = y := State.line_enter s m l
  have hmark : rxdLevel x.pins l = mark := by cases l <;> rfl
  rw [exec_receiverSample_of_high hs]
  refine ⟨fun hstop => ?_, fun hrun => ?_⟩
  · refine congrArg Host.Outcome.next ?_
    rw [sampleReceiver, hx]
    exact if_neg hstop
  have hsample {p q : RxPhase} (hp : y.rx.phase = p) (hq : p.sample y.format mark = q) :
      Host.Outcome.next (sampleReceiver x l) = (.next (after q) : Result) :=
    congrArg Host.Outcome.next (sampleReceiver_of_running hx hrun hp (by rw [hmark, hq]))
  exact ⟨fun hp => hsample hp rfl, fun hp => hsample hp rfl, fun hp => hsample hp rfl, fun n hp => hsample hp rfl,
    fun n got hp => hsample hp rfl, fun raw hp => hsample hp rfl, fun n hp => hsample hp rfl⟩

/-! ### The transmitter (R90, R91) -/

theorem bitTime_pos (rate : BitVec 3) : 0 < bitTime rate := by
  unfold bitTime
  split <;> decide

theorem Line.txd_of_idle {y : Line} (h : y.tx = none) (now : Nat) : y.txd now = true := by
  rw [Line.txd, h]

/-- The pin shows the bit of the character whose time it is (R91). -/
theorem Line.txd_of_char {y : Line} {c : TxChar} (h : y.tx = some c) {now k : Nat}
    (hfrom : c.started + k * bitTime y.format.rate ≤ now) (hto : now < c.started + (k + 1) * bitTime y.format.rate) :
    y.txd now = (y.format.sentBits c.value)[k]?.getD true := by
  have hk : (now - c.started) / bitTime y.format.rate = k := Nat.div_eq_of_lt_le (by omega) (by omega)
  rw [Line.txd, h]
  dsimp only
  rw [hk]

theorem Line.txd_of_over {y : Line} {c : TxChar} (h : y.tx = some c) {now : Nat}
    (hover : c.started + (y.format.sentBits c.value).length * bitTime y.format.rate ≤ now) : y.txd now = true := by
  have hk : (y.format.sentBits c.value).length ≤ (now - c.started) / bitTime y.format.rate :=
    (Nat.le_div_iff_mul_le (bitTime_pos _)).2 (by omega)
  rw [Line.txd, h]
  dsimp only
  rw [List.getElem?_eq_none hk]
  rfl

theorem State.txd_of_high {s : State} (hs : s.inReset = false) (l : LineId) : s.txd l = (s.line l).txd s.now := by
  rw [State.txd, hs, Bool.false_or]

theorem Line.startDue_iff (y : Line) :
    y.startDue = true ↔ y.state = .running ∧ y.tx = none ∧ (y.chan y.owner).tx ≠ [] := by
  simp [Line.startDue, and_assoc]

section Transmit
variable {u : State} {l : LineId} {y : Line} (hl : u.line l = y)
include hl

/-- A transmitter start takes the head of the owner's queue. -/
theorem startTransmit_of_due {o : Owner} {v : Byte} {rest : List Byte} (hrun : y.state = .running) (hidle : y.tx = none)
    (ho : y.owner = o) (hq : (y.chan o).tx = v :: rest) :
    startTransmit u l =
      ({ u with sched := u.sched.note7 } : State).setLine l
        { y.setChan o { y.chan o with tx := rest } with tx := some ⟨v, u.now⟩ } := by
  have hdue : y.startDue = true := (Line.startDue_iff y).2 ⟨hrun, hidle, by rw [ho, hq]; exact List.cons_ne_nil _ _⟩
  rw [startTransmit, hl]
  refine (if_pos hdue).trans ?_
  rw [ho, hq]

theorem startTransmit_of_not_due (h : y.state ≠ .running ∨ y.tx ≠ none ∨ (y.chan y.owner).tx = []) :
    startTransmit u l = u := by
  rw [startTransmit, hl]
  refine if_neg fun hdue => ?_
  obtain ⟨hrun, hidle, hq⟩ := (Line.startDue_iff y).1 hdue
  rcases h with h | h | h <;> contradiction

theorem completeTransmit_of_char {c : TxChar} (h : y.tx = some c) :
    completeTransmit u l =
      ({ u.lateTo (y.txEnd c) with sched := (u.lateTo (y.txEnd c)).sched.note7 } : State).setLine l
        { y with tx := none, state := if y.state = .draining then .stopped else y.state } := by
  rw [completeTransmit, hl, h]
  rfl

theorem completeTransmit_of_idle (h : y.tx = none) : completeTransmit u l = u := by
  rw [completeTransmit, hl, h]

end Transmit

/-- Settles O42. -/
theorem transmitterStartsAndCompletes : Obligations.TransmitterStartsAndCompletes := by
  refine ⟨fun s l hs => ?_, fun m s l hs => ?_⟩
  · rw [State.txd_of_high hs]
    refine ⟨fun h => Line.txd_of_idle h s.now, fun c h => ⟨fun k hk hfrom hto => ?_, fun hover => Line.txd_of_over h hover⟩⟩
    rw [Line.txd_of_char h hfrom hto, List.getElem?_eq_getElem hk]
    rfl
  · intro x y noted length
    have hx : x.line l = y := State.line_enter s m l
    have hstart : exec (.transmitterStart m l) s = .next (endOfStep (startTransmit x l)) :=
      congrArg Host.Outcome.next (takeStep_of_high hs ..)
    have hend : exec (.transmitterCompletion m l) s = .next (endOfStep (completeTransmit x l)) :=
      congrArg Host.Outcome.next (takeStep_of_high hs ..)
    rw [hstart, hend]
    refine ⟨fun v rest hrun hidle ho hq => ?_, fun v rest hrun hidle ho hq => ?_, fun hnot => ?_, fun c hc => ?_,
      fun hidle => ?_⟩
    · exact congrArg (fun w => Host.Outcome.next (endOfStep w)) (startTransmit_of_due hx hrun hidle ho hq)
    · exact congrArg (fun w => Host.Outcome.next (endOfStep w)) (startTransmit_of_due hx hrun hidle ho hq)
    · rw [startTransmit_of_not_due hx]
      rcases hnot with h | h | ⟨ho, h⟩ | ⟨ho, h⟩
      · exact .inl h
      · exact .inr (.inl h)
      · exact .inr (.inr (by rw [ho]; exact h))
      · exact .inr (.inr (by rw [ho]; exact h))
    · exact congrArg (fun w => Host.Outcome.next (endOfStep w)) (completeTransmit_of_char hx hc)
    · rw [completeTransmit_of_idle hx hidle]

end Sys2Proof.Machine
end


section
/-! PROOFS. The bits of a frame (spec/05, R83, R91): data values and their bits, the parity of a character, frames as sent
and as sampled, and how a frame is judged. Settles O39. -/

namespace Sys2Proof.Machine

open Sys2Proof

/-! ### Data values and their bits -/

theorem Format.dataBits_le (f : Format) : f.dataBits ≤ 8 := by
  unfold Format.dataBits
  split_ifs <;> decide

theorem Format.dataValue_getLsbD (f : Format) (v : Byte) (k : Nat) :
    (f.dataValue v).getLsbD k = (decide (k < f.dataBits) && v.getLsbD k) := by
  unfold Format.dataValue Format.dataBits
  by_cases hk : k < 8
  · split_ifs
    · rw [BitVec.getLsbD_and, Bool.and_comm]
      congr 1
      interval_cases k <;> rfl
    · rw [decide_eq_true hk, Bool.true_and]
  · rw [BitVec.getLsbD_of_ge _ _ (Nat.not_lt.1 hk), BitVec.getLsbD_of_ge _ _ (Nat.not_lt.1 hk), Bool.and_false]

theorem Format.dataValue_dataValue (f : Format) (v : Byte) : f.dataValue (f.dataValue v) = f.dataValue v := by
  unfold Format.dataValue
  split_ifs
  · rw [BitVec.and_assoc, BitVec.and_self]
  · rfl

/-- The data bits of a character, least significant first. -/
def Format.data (f : Format) (v : Byte) : List Bool := (List.range f.dataBits).map v.getLsbD

@[simp] theorem Format.data_length (f : Format) (v : Byte) : (f.data v).length = f.dataBits := by
  simp [Format.data]

theorem Format.data_getElem? (f : Format) (v : Byte) {k : Nat} (h : k < f.dataBits) :
    (f.data v)[k]? = some (v.getLsbD k) := by
  simp [Format.data, h]

theorem Format.dataValue_eq_zero_iff (f : Format) (v : Byte) : f.dataValue v = 0 ↔ ∀ b ∈ f.data v, b = false := by
  simp only [Format.data, List.forall_mem_map, List.mem_range]
  constructor
  · intro h k hk
    have hbit := f.dataValue_getLsbD v k
    rw [h, decide_eq_true hk, Bool.true_and] at hbit
    rw [← hbit]
    exact BitVec.getLsbD_zero
  · intro h
    apply BitVec.eq_of_getLsbD_eq
    intro k _
    rw [f.dataValue_getLsbD]
    by_cases hk : k < f.dataBits
    · rw [h k hk, Bool.and_false]
      exact BitVec.getLsbD_zero.symm
    · rw [decide_eq_false hk, Bool.false_and]
      exact BitVec.getLsbD_zero.symm

/-- The value of sampled bits has those bits. -/
theorem byteOfBits_getLsbD (bits : List Bool) {k : Nat} (hk : k < 8) :
    (byteOfBits bits).getLsbD k = bits[k]?.getD false := by
  induction bits generalizing k with
  | nil => simp [byteOfBits]
  | cons b bits ih =>
    have hcons : byteOfBits (b :: bits) = (byteOfBits bits <<< 1) ||| (BitVec.ofBool b).setWidth 8 := rfl
    rw [hcons, BitVec.getLsbD_or, BitVec.getLsbD_shiftLeft, BitVec.getLsbD_setWidth]
    cases k with
    | zero => simp
    | succ k => simp [ih (Nat.lt_of_succ_lt hk), hk]

theorem byteOfBits_data (f : Format) (v : Byte) : byteOfBits (f.data v) = f.dataValue v := by
  apply BitVec.eq_of_getLsbD_eq
  intro k hk
  rw [byteOfBits_getLsbD _ hk, f.dataValue_getLsbD]
  by_cases hn : k < f.dataBits
  · rw [f.data_getElem? v hn, decide_eq_true hn, Bool.true_and]
    rfl
  · rw [List.getElem?_eq_none (by rw [f.data_length]; exact Nat.not_lt.1 hn), decide_eq_false hn, Bool.false_and]
    rfl

/-! ### The parity of a character -/

/-- An odd number of ones is an exclusive or over the bits. -/
theorem count_mod_two (l : List Bool) : l.count true % 2 = (l.foldr Bool.xor false).toNat := by
  induction l with
  | nil => rfl
  | cons b l ih =>
    cases b with
    | false => simpa using ih
    | true =>
      have hnot : (!l.foldr Bool.xor false).toNat = 1 - (l.foldr Bool.xor false).toNat := by
        cases l.foldr Bool.xor false <;> rfl
      rw [List.count_cons_self, List.foldr_cons, Bool.true_xor, hnot, ← ih]
      omega

theorem oddOnes_eq_foldr (v : Byte) (p : Bool) :
    oddOnes v p = (((List.range 8).map v.getLsbD) ++ [p]).foldr Bool.xor false := by
  simp [oddOnes, List.range_succ]

theorem oddOnes_iff (v : Byte) (p : Bool) :
    oddOnes v p = true ↔ ((((List.range 8).map v.getLsbD) ++ [p]).count true) % 2 = 1 := by
  rw [count_mod_two, ← oddOnes_eq_foldr]
  cases oddOnes v p <;> simp

theorem oddOnes_xor (v : Byte) (p : Bool) : oddOnes v p = Bool.xor (oddOnes v false) p := by
  simp only [oddOnes, Bool.xor_assoc, Bool.xor_false]

/-- Only the data bits of a character count. -/
theorem count_dataValue (f : Format) (v : Byte) :
    ((List.range 8).map (f.dataValue v).getLsbD).count true = (f.data v).count true := by
  have hlow : (List.range f.dataBits).map (f.dataValue v).getLsbD = f.data v := by
    refine List.map_congr_left fun k hk => ?_
    rw [f.dataValue_getLsbD, decide_eq_true (List.mem_range.1 hk), Bool.true_and]
  cases hs : f.seven with
  | true =>
    have hn : f.dataBits = 7 := by simp [Format.dataBits, hs]
    have hhigh : (f.dataValue v).getLsbD 7 = false := by
      rw [f.dataValue_getLsbD, hn]
      rfl
    rw [List.range_succ, List.map_append, List.count_append, ← hn, hlow, hn, List.map_singleton, hhigh]
    rfl
  | false =>
    have hn : f.dataBits = 8 := by simp [Format.dataBits, hs]
    rw [← hlow, hn]

theorem oddOnes_dataValue_iff (f : Format) (v : Byte) (p : Bool) :
    oddOnes (f.dataValue v) p = true ↔ ((f.data v).count true + (if p then 1 else 0)) % 2 = 1 := by
  rw [oddOnes_iff, List.count_append, count_dataValue]
  cases p <;> rfl

/-! ### How a frame is judged (R83) -/

/-- The parity mark of a frame. -/
def Format.parityError (f : Format) (raw : RawFrame) : Bool :=
  match f.parity with
  | .none => false
  | .even => oddOnes (f.dataValue raw.data) raw.parity
  | .odd => !oddOnes (f.dataValue raw.data) raw.parity

/-- A break: a stop bit at space with every sampled bit at space. -/
def Format.isBreak (f : Format) (raw : RawFrame) : Prop :=
  raw.stop = false ∧ (∀ b ∈ f.data raw.data, b = false) ∧ (f.parity = .none ∨ raw.parity = false)

theorem judge_of_break {f : Format} {raw : RawFrame} (h : f.isBreak raw) : judge f raw = ⟨0, false, false, true⟩ := by
  obtain ⟨hstop, hdata, hparity⟩ := h
  unfold judge
  exact if_pos ⟨by rw [hstop]; rfl, (f.dataValue_eq_zero_iff _).2 hdata, hparity⟩

theorem judge_of_not_break {f : Format} {raw : RawFrame} (h : ¬ f.isBreak raw) :
    judge f raw = ⟨f.dataValue raw.data, f.parityError raw, !raw.stop, false⟩ := by
  unfold judge
  refine if_neg fun hb => h ?_
  exact ⟨by simpa using hb.1, (f.dataValue_eq_zero_iff _).1 hb.2.1, hb.2.2⟩

theorem parityError_iff (f : Format) (raw : RawFrame) :
    let ones := (f.data raw.data).count true + (if raw.parity then 1 else 0)
    f.parityError raw = true ↔ (f.parity = .even ∧ ones % 2 = 1) ∨ (f.parity = .odd ∧ ones % 2 = 0) := by
  intro ones
  have hodd : oddOnes (f.dataValue raw.data) raw.parity = true ↔ ones % 2 = 1 := oddOnes_dataValue_iff ..
  unfold Format.parityError
  cases f.parity with
  | none => simp
  | even => simp [hodd]
  | odd =>
    rw [Bool.not_eq_true', ← Bool.not_eq_true, hodd]
    simp

/-! ### A frame as sent (R91) -/

/-- The parity bit of a frame, where there is one. -/
def Format.parityPart (f : Format) (v : Byte) : List Bool := if f.parity = .none then [] else [f.parityBit v]

/-- The stop bits of a frame. -/
def Format.stopPart (f : Format) : List Bool := if f.twoStop then [true, true] else [true]

theorem Format.sentBits_eq (f : Format) (v : Byte) :
    f.sentBits v = false :: (f.data v ++ (f.parityPart v ++ f.stopPart)) := by
  simp [Format.sentBits, Format.data, Format.parityPart, Format.stopPart]

@[simp] theorem Format.parityPart_length (f : Format) (v : Byte) : (f.parityPart v).length = f.parityBits := by
  unfold Format.parityPart Format.parityBits
  split_ifs <;> rfl

theorem Format.stopPart_length (f : Format) : f.stopPart.length = if f.twoStop then 2 else 1 := by
  unfold Format.stopPart
  split_ifs <;> rfl

theorem Format.sentBits_length (f : Format) (v : Byte) :
    (f.sentBits v).length = 1 + f.dataBits + f.parityBits + (if f.twoStop then 2 else 1) := by
  rw [f.sentBits_eq, List.length_cons, List.length_append, List.length_append, f.data_length, f.parityPart_length,
    f.stopPart_length]
  omega

theorem Format.sentBits_data (f : Format) (v : Byte) {k : Nat} (h : k < f.dataBits) :
    (f.sentBits v)[1 + k]? = some (v.getLsbD k) := by
  rw [f.sentBits_eq, Nat.add_comm, List.getElem?_cons_succ, List.getElem?_append_left (by rwa [f.data_length]),
    f.data_getElem? v h]

theorem Format.sentBits_parity (f : Format) (v : Byte) (h : f.parity ≠ .none) :
    (f.sentBits v)[1 + f.dataBits]? = some (f.parityBit v) := by
  rw [f.sentBits_eq, Nat.add_comm, List.getElem?_cons_succ, List.getElem?_append_right (by rw [f.data_length]),
    f.data_length, Nat.sub_self, Format.parityPart, if_neg h]
  rfl

theorem Format.sentBits_stop (f : Format) (v : Byte) {k : Nat} (hk : 1 + f.dataBits + f.parityBits ≤ k)
    (hlen : k < (f.sentBits v).length) : (f.sentBits v)[k]? = some true := by
  obtain ⟨j, rfl⟩ := Nat.exists_eq_add_of_le hk
  have hj : j < f.stopPart.length := by
    rw [f.sentBits_length, ← f.stopPart_length] at hlen
    omega
  have hstop : f.stopPart[j]? = some true := by
    have hall : ∀ b ∈ f.stopPart, b = true := by
      unfold Format.stopPart
      split_ifs <;> simp
    rw [List.getElem?_eq_getElem hj, hall _ (List.getElem_mem hj)]
  rw [f.sentBits_eq, show 1 + f.dataBits + f.parityBits + j = (f.dataBits + f.parityBits + j) + 1 by omega,
    List.getElem?_cons_succ, List.getElem?_append_right (by rw [f.data_length]; omega), f.data_length,
    List.getElem?_append_right (by rw [f.parityPart_length]; omega), f.parityPart_length,
    show f.dataBits + f.parityBits + j - f.dataBits - f.parityBits = j by omega, hstop]

/-- The parity bit makes the ones even or odd (R91). -/
theorem Format.parityBit_ones (f : Format) (v : Byte) :
    (f.parity = .even → (f.data v ++ [f.parityBit v]).count true % 2 = 0) ∧
      (f.parity = .odd → (f.data v ++ [f.parityBit v]).count true % 2 = 1) := by
  have hodd := oddOnes_dataValue_iff f v (f.parityBit v)
  have hcount : (f.data v ++ [f.parityBit v]).count true = (f.data v).count true + (if f.parityBit v then 1 else 0) := by
    rw [List.count_append]
    cases f.parityBit v <;> rfl
  rw [← hcount, oddOnes_xor] at hodd
  refine ⟨fun h => ?_, fun h => ?_⟩
  · have hbit : f.parityBit v = oddOnes (f.dataValue v) false := by simp [Format.parityBit, h]
    rw [← hbit, Bool.xor_self] at hodd
    simpa using hodd
  · have hbit : f.parityBit v = !oddOnes (f.dataValue v) false := by simp [Format.parityBit, h]
    exact hodd.1 (by rw [hbit]; cases oddOnes (f.dataValue v) false <;> rfl)

/-! ### A frame as sampled (R83) -/

/-- What a receiver samples of a sent frame: the data bits, the parity bit, and the first stop bit. -/
theorem Format.sampled_sentBits (f : Format) (v : Byte) :
    ((f.sentBits v).drop 1).take f.sampledLength = f.data v ++ (f.parityPart v ++ [true]) := by
  have hlen : (f.data v ++ f.parityPart v).length = f.dataBits + f.parityBits := by
    rw [List.length_append, f.data_length, f.parityPart_length]
  have hstop : f.stopPart.take 1 = [true] := by
    unfold Format.stopPart
    split_ifs <;> rfl
  rw [f.sentBits_eq, List.drop_one, List.tail_cons, ← List.append_assoc, Format.sampledLength, ← hlen,
    List.take_length_add_append, hstop, List.append_assoc]

theorem Format.rawOfBits_sentBits (f : Format) (v : Byte) :
    let raw := rawOfBits f (((f.sentBits v).drop 1).take f.sampledLength)
    raw.data = f.dataValue v ∧ (f.parity ≠ .none → raw.parity = f.parityBit v) ∧ raw.stop = true := by
  rw [f.sampled_sentBits]
  refine ⟨?_, fun h => ?_, ?_⟩
  · simp only [rawOfBits]
    rw [List.take_left' (f.data_length v), byteOfBits_data]
  · simp only [rawOfBits]
    rw [List.getElem?_append_right (by rw [f.data_length]), f.data_length, Nat.sub_self, Format.parityPart, if_neg h]
    rfl
  · simp only [rawOfBits]
    rw [← List.append_assoc]
    simp

/-- A frame sent under a format is received under it as the unmarked character of its data bits. -/
theorem judge_sentBits (f : Format) (v : Byte) :
    judge f (rawOfBits f (((f.sentBits v).drop 1).take f.sampledLength)) = ⟨f.dataValue v, false, false, false⟩ := by
  obtain ⟨hdata, hparity, hstop⟩ := f.rawOfBits_sentBits v
  rw [judge_of_not_break fun h => absurd (hstop.symm.trans h.1) nofun, hstop, hdata, f.dataValue_dataValue]
  have herror : f.parityError (rawOfBits f (((f.sentBits v).drop 1).take f.sampledLength)) = false := by
    unfold Format.parityError
    cases hp : f.parity with
    | none => rfl
    | even =>
      dsimp only
      rw [hparity (by simp [hp]), hdata, f.dataValue_dataValue, oddOnes_xor, Format.parityBit, hp]
      exact Bool.xor_self _
    | odd =>
      dsimp only
      rw [hparity (by simp [hp]), hdata, f.dataValue_dataValue, oddOnes_xor, Format.parityBit, hp]
      cases oddOnes (f.dataValue v) false <;> rfl
  rw [herror]
  rfl

theorem rawOfBits_fields {f : Format} {got : List Bool} (h : got.length = f.dataBits + f.parityBits + 1) :
    let raw := rawOfBits f got
    (∀ k < f.dataBits, got[k]? = some (raw.data.getLsbD k)) ∧ (∀ k, f.dataBits ≤ k → raw.data.getLsbD k = false) ∧
      (f.parity ≠ .none → got[f.dataBits]? = some raw.parity) ∧ got[f.dataBits + f.parityBits]? = some raw.stop := by
  have hbits := f.dataBits_le
  refine ⟨fun k hk => ?_, fun k hk => ?_, fun hp => ?_, ?_⟩
  · simp only [rawOfBits]
    rw [byteOfBits_getLsbD _ (by omega), List.getElem?_take_of_lt hk, List.getElem?_eq_getElem (by omega)]
    rfl
  · simp only [rawOfBits]
    by_cases h8 : k < 8
    · rw [byteOfBits_getLsbD _ h8, List.getElem?_take_eq_none hk]
      rfl
    · exact BitVec.getLsbD_of_ge _ _ (Nat.not_lt.1 h8)
  · simp only [rawOfBits]
    rw [List.getElem?_eq_getElem (by omega)]
    rfl
  · simp only [rawOfBits]
    rw [List.getLastD_eq_getLast?, List.getLast?_eq_getElem?, h, Nat.add_sub_cancel, List.getElem?_eq_getElem (by omega)]
    rfl

/-- Settles O39. -/
theorem framesAreJudgedAsTheyAreSent : Obligations.FramesAreJudgedAsTheyAreSent := by
  refine ⟨fun f raw => ?_, fun f v => ⟨judge_sentBits f v, ?_, ?_⟩, fun f v => ?_, fun f got h => rawOfBits_fields h⟩
  · refine ⟨fun h => judge_of_break h, fun h => ?_⟩
    rw [judge_of_not_break h]
    exact ⟨rfl, rfl, parityError_iff f raw, f.dataValue_getLsbD raw.data⟩
  · rw [f.sentBits_length, Format.sampledLength]
    split_ifs <;> omega
  · rw [f.sentBits_eq]
    rfl
  · refine ⟨f.sentBits_length v, by rw [f.sentBits_eq]; rfl, fun k hk => f.sentBits_data v hk, fun h => ?_, fun h => ?_,
      fun k hk hlen => f.sentBits_stop v hk hlen⟩
    · exact ⟨_, f.sentBits_parity v (by simp [h]), (f.parityBit_ones v).1 h⟩
    · exact ⟨_, f.sentBits_parity v (by simp [h]), (f.parityBit_ones v).2 h⟩

end Sys2Proof.Machine
end


section
/-! PROOFS. The transfer sequencer (spec/07): the record reads, the move steps, the assembly items and the staging words.
Settles O45, O46 and O47. -/

namespace Sys2Proof.Machine

open Sys2Proof

/-! ### Records (R124, R125) -/

theorem Lane.placeRecord_eq_ended (x : Lane) (r : Record) (halts : Bool) : x.placeRecord r halts = x.ended r halts := by
  unfold Lane.placeRecord Lane.ended
  split_ifs
  · rfl
  all_goals rfl

section TakeRecord
variable {x : Lane} {r : Record} {rest : List Record}

theorem Lane.takeRecord_of_empty (h : x.records = []) : x.takeRecord = x := by
  rw [Lane.takeRecord, h]

theorem Lane.takeRecord_of_not_waiting (h : x.records = r :: rest) (hs : ∀ p o, x.state ≠ .waitRecord p o) :
    x.takeRecord = { x with records := rest } := by
  rw [Lane.takeRecord, h]
  dsimp only
  split
  · next p hp => exact absurd hp (hs p _)
  · next p hp => exact absurd hp (hs p _)
  · rfl

theorem Lane.takeRecord_of_halt {p : Record} (h : x.records = r :: rest) (hs : x.state = .waitRecord p .halt) :
    x.takeRecord = { x with records := rest ++ [p], state := .halted } := by
  rw [Lane.takeRecord, h]
  dsimp only
  rw [hs]

theorem Lane.takeRecord_of_continue {p : Record} (h : x.records = r :: rest) (hs : x.state = .waitRecord p .continue) :
    x.takeRecord =
      match x.queue with
      | [] => { x with records := rest ++ [p], state := .idle }
      | j :: jobs => { x with records := rest ++ [p], state := .running j 0, queue := jobs } := by
  rw [Lane.takeRecord, h]
  dsimp only
  rw [hs]
  rfl

theorem Lane.recordReadWord_of_cons (h : x.records = r :: rest) :
    x.recordReadWord = recordWord r x.takeRecord.records.length := by
  rw [Lane.recordReadWord, h]

end TakeRecord

theorem recordWord_fields {r : Record} {left : Nat} (hleft : left ≤ 8) (hmoved : r.moved ≤ 4096) :
    let w := recordWord r left
    w.extractLsb' 0 8 = r.tag ∧
      (w.extractLsb' 8 3).toNat =
        (match r.status with | .count => 1 | .stopChar => 2 | .error => 3 | .brk => 4 | .aborted => 5) ∧
      w.getLsbD 11 = r.notify ∧ (w.extractLsb' 12 4).toNat = left ∧ (w.extractLsb' 16 13).toNat = r.moved ∧
      w.extractLsb' 29 3 = 0 := by
  have hcode : r.status.code.toNat =
      (match r.status with | .count => 1 | .stopChar => 2 | .error => 3 | .brk => 4 | .aborted => 5) := by
    cases r.status <;> rfl
  simp only [field_eq_extract, ← hcode]
  refine ⟨?_, ?_, ?_, ?_, ?_, ?_⟩ <;> simp (disch := omega) [recordWord, field_placeNat_toNat]

/-- A host read of TSQ_RECORD, by what is left of the lane and the word returned. -/
theorem exec_tsqRecord_of_free {s : State} (hf : s.hostFree) (m : Moment) (priv : Bool) {n : LaneId} {y z : Lane}
    {w : Word} (hy : s.lane n = y) (hz : y.takeRecord = z) (hw : y.recordReadWord = w) :
    exec (.tsqRecord m priv n) s = .next (endOfStep (((s.enter m).setLane n z).hostDone w)) := by
  refine exec_read_leaves hf rfl (decodeItem_number (.lane n .record)) nofun nofun rfl ?_ ?_
  · simp only [consume, State.lane_enter, Instr.moment, hy, hz]
  · simp only [State.itemWord, State.laneWord, State.lane_enter, hy, hw]

/-- Settles O45. -/
theorem recordsAreCollectedInOrder : Obligations.RecordsAreCollectedInOrder := by
  refine ⟨fun m s n priv data hf => ?_, fun r left hleft hmoved => recordWord_fields hleft hmoved⟩
  intro x y
  refine ⟨fun hnil => ?_, fun r rest hrec hstate => ?_, fun r rest p hrec hstate => ?_, fun r rest p hrec hstate => ?_, ?_⟩
  · have hword : y.recordReadWord = 0 := by rw [Lane.recordReadWord, hnil]
    have hsame : x.setLane n y = x := by
      rw [show y = x.lane n from (State.lane_enter s m n).symm, State.setLane_lane]
    have hread := exec_tsqRecord_of_free hf m priv (z := y) (y := y) rfl (Lane.takeRecord_of_empty hnil) hword
    rw [hread]
    exact congrArg (fun v : State => Host.Outcome.next (endOfStep (v.hostDone 0))) hsame
  · have hrest := Lane.takeRecord_of_not_waiting hrec hstate
    exact exec_tsqRecord_of_free hf m priv rfl hrest ((Lane.recordReadWord_of_cons hrec).trans (by rw [hrest]))
  · have hrest := Lane.takeRecord_of_halt hrec hstate
    exact exec_tsqRecord_of_free hf m priv rfl hrest ((Lane.recordReadWord_of_cons hrec).trans (by rw [hrest]; simp))
  · have hrest := Lane.takeRecord_of_continue hrec hstate
    refine exec_tsqRecord_of_free hf m priv rfl hrest ((Lane.recordReadWord_of_cons hrec).trans ?_)
    rw [hrest]
    cases y.queue <;> simp
  · exact exec_write_leaves hf rfl (decodeItem_number (.lane n .discarded)) (.inl rfl) nofun rfl nofun rfl
      (congrArg (fun z : Lane => x.setLane n { z with discarded := 0 }) (State.lane_enter s m n))

/-! ### Moves (R121 to R124) -/

theorem Sched.noteMove_eq (x : Sched) (n : LaneId) :
    x.noteMove n = { x with passed8 := true, moved := if n ∈ x.moved then [n] else n :: x.moved } := by
  simp only [Sched.noteMove, List.contains_iff_mem]

/-- How a receive move leaves its lane (R122, R124). -/
theorem Lane.afterReceive_eq (x : Lane) (j : Job) (k : Nat) (e : RxEntry) :
    x.afterReceive j k e =
      if e.brk then x.ended ⟨j.tag, .brk, movedAfter k e, j.notify⟩ j.haltOnError
      else if (e.parity = true ∨ e.framing = true) ∧ j.endOnError = true then
        x.ended ⟨j.tag, .error, movedAfter k e, j.notify⟩ j.haltOnError
      else if j.stopChar = some e.value then x.ended ⟨j.tag, .stopChar, movedAfter k e, j.notify⟩ false
      else if movedAfter k e = j.length.toNat then x.ended ⟨j.tag, .count, movedAfter k e, j.notify⟩ false
      else { x with state := .running j (movedAfter k e) } := by
  have hmarked : ((e.parity || e.framing) && j.endOnError) = true ↔
      (e.parity = true ∨ e.framing = true) ∧ j.endOnError = true := by
    rw [Bool.and_eq_true, Bool.or_eq_true]
  unfold Lane.afterReceive receiveEnds movedAfter
  by_cases hb : e.brk = true
  · simp only [hb, if_true, Lane.endJob, Lane.placeRecord_eq_ended]
    rfl
  · simp only [hb, hmarked]
    split_ifs <;> simp only [Lane.endJob, Lane.placeRecord_eq_ended] <;> rfl

theorem Lane.afterTransmit_eq (x : Lane) (j : Job) (k : Nat) :
    x.afterTransmit j k =
      if k + 1 = j.length.toNat then x.ended ⟨j.tag, .count, k + 1, j.notify⟩ false
      else { x with state := .running j (k + 1) } := by
  unfold Lane.afterTransmit
  split_ifs
  · rw [Lane.endJob, Lane.placeRecord_eq_ended]
    rfl
  · rfl

section Moves
variable {s : State} {m : Moment} {l : LineId} (hs : s.inReset = false)
include hs

theorem exec_receiveMove_of_good (h : receiveMoveFaults s l = false) :
    exec (.receiveMove m l) s = .next (endOfStep (receiveMove (s.enter m) l)) :=
  (if_neg (by simp [h])).trans (congrArg Host.Outcome.next (takeStep_of_high hs ..))

theorem exec_receiveMove_of_fault (h : receiveMoveFaults s l = true) :
    exec (.receiveMove m l) s = .fault .stagingOutOfRange := if_pos (by simp [hs, h])

theorem exec_transmitMove_of_good (h : transmitMoveFaults s l = false) :
    exec (.transmitMove m l) s = .next (endOfStep (transmitMove (s.enter m) l)) :=
  (if_neg (by simp [h])).trans (congrArg Host.Outcome.next (takeStep_of_high hs ..))

theorem exec_transmitMove_of_fault (h : transmitMoveFaults s l = true) :
    exec (.transmitMove m l) s = .fault .stagingOutOfRange := if_pos (by simp [hs, h])

end Moves

section MoveEffects
variable {s : State} {l : LineId}

theorem receiveMoveFaults_of_running {j : Job} {k : Nat} {e : RxEntry} {rest : List RxEntry}
    (hstate : (s.lane (rxLane l)).state = .running j k) (hrx : (s.line l).prog.rx = e :: rest) :
    receiveMoveFaults s l = (!e.brk && decide (4096 ≤ j.offset.toNat + k)) := by
  rw [receiveMoveFaults, hstate, hrx]
  rfl

theorem receiveMove_of_running {j : Job} {k : Nat} {e : RxEntry} {rest : List RxEntry}
    (hstate : (s.lane (rxLane l)).state = .running j k) (hrx : (s.line l).prog.rx = e :: rest) :
    receiveMove s l =
      ({ s.setLine l { s.line l with prog := { (s.line l).prog with rx := rest } } with
          staging := if e.brk then s.staging else writeByte s.staging (j.offset.toNat + k) e.value
          sched := s.sched.noteMove (rxLane l) } : State).setLane (rxLane l)
        ((s.lane (rxLane l)).afterReceive j k e) := by
  rw [receiveMove, hstate, hrx]
  rfl

/-- A receive lane that is not RUNNING, or whose queue is empty, does not move (R121). -/
theorem receiveMove_of_waiting
    (h : (s.line l).prog.rx = [] ∨ ∀ j k, (s.lane (rxLane l)).state ≠ .running j k) :
    receiveMove s l = s ∧ receiveMoveFaults s l = false := by
  have hno {j k e rest} (hstate : (s.lane (rxLane l)).state = .running j k) : (s.line l).prog.rx ≠ e :: rest := by
    rw [h.resolve_right fun hn => hn j k hstate]
    exact nofun
  constructor
  · unfold receiveMove
    dsimp only
    split
    · next hstate hrx => exact absurd hrx (hno hstate)
    · rfl
  · unfold receiveMoveFaults
    split
    · next hstate hrx => exact absurd hrx (hno hstate)
    · rfl

theorem transmitMoveFaults_of_running {j : Job} {k : Nat} (hstate : (s.lane (txLane l)).state = .running j k)
    (hroom : (s.line l).prog.tx.length < 32) :
    transmitMoveFaults s l = decide (4096 ≤ j.offset.toNat + k) := by
  rw [transmitMoveFaults, hstate]
  dsimp only
  rw [decide_eq_true (show _ < Config.queueDepth from hroom), Bool.true_and]
  rfl

theorem transmitMove_of_running {j : Job} {k : Nat} (hstate : (s.lane (txLane l)).state = .running j k)
    (hroom : (s.line l).prog.tx.length < 32) :
    transmitMove s l =
      ({ s.setLine l { s.line l with prog := { (s.line l).prog with
            tx := (s.line l).prog.tx ++ [readByte s.staging (j.offset.toNat + k)] } } with
          sched := s.sched.noteMove (txLane l) } : State).setLane (txLane l)
        ((s.lane (txLane l)).afterTransmit j k) := by
  rw [transmitMove, hstate]
  exact if_pos hroom

/-- A transmit lane that is not RUNNING, or whose queue is full, does not move (R121). -/
theorem transmitMove_of_waiting
    (h : 32 ≤ (s.line l).prog.tx.length ∨ ∀ j k, (s.lane (txLane l)).state ≠ .running j k) :
    transmitMove s l = s ∧ transmitMoveFaults s l = false := by
  have hfull {j k} (hstate : (s.lane (txLane l)).state = .running j k) :
      ¬ (s.line l).prog.tx.length < Config.queueDepth :=
    Nat.not_lt.2 (h.resolve_right fun hn => hn j k hstate)
  constructor
  · unfold transmitMove
    dsimp only
    split
    · next hstate => exact if_neg (hfull hstate)
    · rfl
  · unfold transmitMoveFaults
    split
    · next hstate => rw [decide_eq_false (hfull hstate), Bool.false_and]
    · rfl

end MoveEffects

/-- One byte of staging memory after a receive move. -/
theorem readByte_after_receive {mem : List Host.Cell} (hm : Memory.wf mem = true) (brk : Bool) (address a : Nat) (v : Byte) :
    readByte (if brk then mem else writeByte mem address v) a =
      if brk = false ∧ a = address then v else readByte mem a := by
  cases brk with
  | true => simp
  | false =>
    by_cases ha : a = address
    · subst ha
      simp [readByte_writeByte_self hm]
    · simp [ha, readByte_writeByte_ne mem ha]

/-- Settles O46. -/
theorem movesTakeOneByte : Obligations.MovesTakeOneByte := by
  intro m s l hs hwf x y noted
  have hx : x.line l = y := State.line_enter s m l
  have hlane (n : LaneId) : x.lane n = s.lane n := State.lane_enter s m n
  have hmem : x.staging = s.staging := State.enter_staging s m
  refine ⟨fun j k e rest hstate hrx => ?_, fun hwait => ?_, fun j k hstate hroom => ?_, fun hwait => ?_⟩
  · intro address moved lane lane'
    have hfaults := receiveMoveFaults_of_running hstate hrx
    refine ⟨fun hgood => ?_, fun hbrk hbeyond => ?_⟩
    · have hno : receiveMoveFaults s l = false := by
        rw [hfaults]
        rcases hgood with hb | ha
        · rw [hb]; rfl
        · rw [decide_eq_false (Nat.not_le.2 ha), Bool.and_false]
      refine ⟨if e.brk then s.staging else writeByte s.staging address e.value, ?_, ?_,
        fun a => readByte_after_receive hwf e.brk address a e.value⟩
      · have hmove := receiveMove_of_running (s := x) (l := l) (by rw [hlane]; exact hstate) (by rw [hx]; exact hrx)
        rw [hx, hlane, hmem, Lane.afterReceive_eq, Sched.noteMove_eq] at hmove
        rw [exec_receiveMove_of_good hs hno]
        exact congrArg (fun v => Host.Outcome.next (endOfStep v)) hmove
      · cases hb : e.brk with
        | true => exact hwf
        | false => exact wf_writeByte hwf (hgood.resolve_left (by simp [hb])) _
    · exact exec_receiveMove_of_fault hs (by rw [hfaults, hbrk, decide_eq_true hbeyond]; rfl)
  · rw [exec_receiveMove_of_good hs (receiveMove_of_waiting hwait).2]
    rw [(receiveMove_of_waiting (s := x) (l := l) (by simpa only [hx, hlane] using hwait)).1]
  · intro address lane lane'
    have hfaults := transmitMoveFaults_of_running hstate hroom
    refine ⟨fun hgood => ?_, fun hbeyond => ?_⟩
    · have hmove := transmitMove_of_running (s := x) (l := l) (by rw [hlane]; exact hstate) (by rw [hx]; exact hroom)
      rw [hx, hlane, hmem, Lane.afterTransmit_eq, Sched.noteMove_eq] at hmove
      rw [exec_transmitMove_of_good hs (by rw [hfaults, decide_eq_false (Nat.not_le.2 hgood)])]
      exact congrArg (fun v => Host.Outcome.next (endOfStep v)) hmove
    · exact exec_transmitMove_of_fault hs (by rw [hfaults, decide_eq_true hbeyond])
  · rw [exec_transmitMove_of_good hs (transmitMove_of_waiting hwait).2]
    rw [(transmitMove_of_waiting (s := x) (l := l) (by simpa only [hx, hlane] using hwait)).1]

/-! ### The assembly items and the staging words (R116, R119) -/

theorem readStaging_byte (mem : List Host.Cell) (k : Nat) {j : Nat} (hj : j < 4) :
    (readStaging mem k).extractLsb' (8 * j) 8 = readByte mem (4 * k + j) := by
  rw [field_eq_extract]
  interval_cases j <;> simp (disch := omega) [readStaging]

theorem readByte_writeStaging_eq {mem : List Host.Cell} (hm : Memory.wf mem = true) {k : Nat} (hk : k < 1024) (w : Word)
    (b : Nat) :
    readByte (writeStaging mem k w) b = if b / 4 = k then w.extractLsb' (8 * (b % 4)) 8 else readByte mem b := by
  obtain ⟨h0, h1, h2, h3, hother⟩ := readByte_writeStaging hm hk w
  by_cases hb : b / 4 = k
  · rw [if_pos hb, field_eq_extract]
    have hlt : b % 4 < 4 := Nat.mod_lt _ (by decide)
    have hsplit : b = 4 * k + b % 4 := by omega
    generalize b % 4 = j at hlt hsplit
    subst hsplit
    interval_cases j
    · exact h0
    · exact h1
    · exact h2
    · exact h3
  · rw [if_neg hb]
    exact hother b (by omega)

/-- Settles O47. -/
theorem assemblyAndStagingAccesses : Obligations.AssemblyAndStagingAccesses := by
  intro m s n k priv data hf hwf x y a num
  have hlane : x.lane n = y := State.lane_enter s m n
  have hmem : x.staging = s.staging := State.enter_staging s m
  refine ⟨?_, ?_, ⟨writeStaging s.staging k.val data, ?_, wf_writeStaging hwf k.isLt data,
    readByte_writeStaging_eq hwf k.isLt data⟩, ⟨readStaging s.staging k.val, ?_, fun j hj => readStaging_byte _ _ hj⟩⟩
  · exact exec_write_leaves hf rfl (decodeItem_number (.lane n .jobPlace)) (.inl rfl) nofun rfl nofun rfl
      (congrArg (fun z : Lane => x.setLane n { z with asm := z.asm.withPlace data }) hlane)
  · exact exec_write_leaves hf rfl (decodeItem_number (.lane n .jobMode)) (.inl rfl) nofun rfl nofun rfl
      (congrArg (fun z : Lane => x.setLane n { z with asm := z.asm.withMode data }) hlane)
  · exact exec_write_leaves hf rfl (decodeItem_number (.staging k)) (.inl rfl) nofun rfl nofun rfl
      (congrArg (fun mem => ({ x with staging := writeStaging mem k.val data } : State)) hmem)
  · refine (exec_hostTransactionBegin_read hf m priv (decodeItem_number (.staging k)) data).trans ?_
    rw [hostRead_done (it := .staging k) nofun nofun rfl]
    exact congrArg (fun mem => Host.Outcome.next (endOfStep (x.hostDone (readStaging mem k.val)))) hmem

end Sys2Proof.Machine
end


section
/-! PROOFS. The tally timers (spec/08): their commands and settings, and the tick step as four visits by the tables of
counting and expiry. Settles O48, O49 and O50. -/

namespace Sys2Proof.Machine

open Sys2Proof

/-! ### Commands (R7, R136, R140) -/

section Commands
variable {s : State} {n : TimerId} {y : Timer}

theorem needsPriv_timer {it : TimerItem} (hit : it ≠ .config) (w : Word) :
    s.needsPriv (.timer n it) w = (s.timer n).guard := by
  cases it with
  | config => exact absurd rfl hit
  | _ => rfl

/-- An access to a timer that is not guarded from it has what privilege it needs. -/
theorem priv_of_timerOpen {it : TimerItem} (hit : it ≠ .config) {w : Word} {priv : Bool}
    (h : (s.timer n).guard = false ∨ priv = true) (hn : s.needsPriv (.timer n it) w = true) : priv = true := by
  rw [needsPriv_timer hit] at hn
  exact h.resolve_left (by simp [hn])

theorem writeItem_timerCommand (u : State) (n : TimerId) (high : BitVec 30) (c : BitVec 2) :
    writeItem u (.timer n .command) (high ++ c) = u.setTimer n ((u.timer n).command c) := by
  simp only [writeItem, writeTimer, field_append_command]

theorem badValue_timerCommand (u : State) (n : TimerId) (high : BitVec 30) (c : BitVec 2) :
    u.badValue (.timer n .command) (high ++ c) = decide (c = 0) := by
  simp only [State.badValue, field_append_command]

/-- A command to a timer that is not guarded from this access, by what it makes of the timer. -/
theorem exec_timerCommand {m : Moment} {priv : Bool} (hf : s.hostFree) {c : Instr} {high : BitVec 30} {cmd : BitVec 2}
    (hc : c.access = some (true, priv, (Item.timer n .command).number, high ++ cmd)) (hm : c.moment = m)
    (hp : (s.timer n).guard = false ∨ priv = true) (hcmd : cmd ≠ 0) {z : Timer} (hz : (s.timer n).command cmd = z) :
    exec c s = .next (endOfStep (((s.enter m).setTimer n z).hostDone 0)) := by
  subst hm
  refine exec_write_leaves hf hc (decodeItem_number _) (.inr rfl) (priv_of_timerOpen (by decide) hp) ?_ nofun rfl ?_
  · rw [badValue_timerCommand]
    exact decide_eq_false hcmd
  · rw [writeItem_timerCommand, State.timer_enter, hz]

end Commands

/-- Settles O48. -/
theorem timerCommands : Obligations.TimerCommands := by
  intro m s n priv high data hf x y num
  have hx : x.timer n = y := State.timer_enter s m n
  refine ⟨fun hp => ⟨?_, ?_, ?_, ?_, ?_⟩, fun hguard hlow => ⟨fun c hc => ?_, ?_⟩⟩
  · exact exec_timerCommand hf rfl rfl hp (by decide) rfl
  · exact exec_timerCommand hf rfl rfl hp (by decide) rfl
  · exact exec_timerCommand hf rfl rfl hp (by decide) rfl
  · exact exec_write_leaves hf rfl (decodeItem_number (.timer n .status)) (.inl rfl)
      (priv_of_timerOpen (by decide) hp) rfl nofun rfl
      (congrArg (fun z : Timer => x.setTimer n { z with lost := 0 }) hx)
  · exact exec_write_badValue hf rfl (decodeItem_number (.timer n .command)) (.inr rfl) hp
      (badValue_timerCommand s n high 0)
  · subst hlow
    rcases hc with rfl | rfl | rfl <;>
      exact exec_write_protected hf rfl (decodeItem_number (.timer n .command)) (.inr rfl) hguard
  · subst hlow
    exact exec_write_protected hf rfl (decodeItem_number (.timer n .status)) (.inl rfl) hguard

/-! ### Settings (R132, R134, R135) -/

theorem anyTimerRunning_iff (s : State) : s.anyTimerRunning = true ↔ ∃ k, (s.timer k).state = .running := by
  simp only [State.anyTimerRunning, Bool.or_eq_true, decide_eq_true_eq]
  constructor
  · rintro (((h | h) | h) | h)
    exacts [⟨0, h⟩, ⟨1, h⟩, ⟨2, h⟩, ⟨3, h⟩]
  · rintro ⟨k, h⟩
    fin_cases k
    exacts [.inl (.inl (.inl h)), .inl (.inl (.inr h)), .inl (.inr h), .inr h]

theorem writeRefusal_tickLength (s : State) (w : Word) :
    s.writeRefusal .tickLength w = if s.anyTimerRunning then some .notIdle else none := rfl

theorem needsPriv_config (s : State) (n : TimerId) (w : Word) :
    s.needsPriv (.timer n .config) w = true ↔ (s.timer n).guard = true ∨ w.getLsbD 1 ≠ (s.timer n).guard := by
  simp only [State.needsPriv, Bool.or_eq_true, decide_eq_true_eq]

/-- Settles O49. -/
theorem timerSettingsWrites : Obligations.TimerSettingsWrites := by
  intro m s n priv data hf x y num length limit secret
  have hx : x.timer n = y := State.timer_enter s m n
  have hconfig : s.needsPriv (.timer n .config) data = true ↔ secret := needsPriv_config s n data
  have hopen (h : ¬ secret ∨ priv = true) (hn : s.needsPriv (.timer n .config) data = true) : priv = true :=
    h.resolve_left (not_not_intro (hconfig.1 hn))
  refine ⟨fun h0 => ?_, fun h0 hrun => ?_, fun h0 hrun => ?_, fun hs hlow => ?_, fun hs hrun hp => ?_, fun hs hok => ?_,
    fun hg hlow => ?_, fun hg => ⟨fun h0 => ?_, fun h0 hrun => ?_, fun h0 hrun => ?_⟩⟩
  · exact exec_write_badValue hf rfl (decodeItem_number .tickLength) (.inl rfl) (.inl rfl) (decide_eq_true h0)
  · exact exec_write_refused hf rfl (decodeItem_number .tickLength) (.inl rfl) nofun (decide_eq_false h0) nofun
      (if_pos ((anyTimerRunning_iff s).2 hrun))
  · have hidle : ¬ s.anyTimerRunning = true := fun ha =>
      let ⟨k, hk⟩ := (anyTimerRunning_iff s).1 ha
      hrun k hk
    exact exec_write_leaves hf rfl (decodeItem_number .tickLength) (.inl rfl) nofun (decide_eq_false h0) nofun
      (if_neg hidle) rfl
  · subst hlow
    exact exec_write_protected hf rfl (decodeItem_number (.timer n .config)) (.inl rfl) (hconfig.2 hs)
  · exact exec_write_refused hf rfl (decodeItem_number (.timer n .config)) (.inl rfl) (hopen hs) rfl nofun
      (if_pos ⟨hrun, hp⟩)
  · exact exec_write_leaves hf rfl (decodeItem_number (.timer n .config)) (.inl rfl) (hopen hs) rfl nofun
      (if_neg fun h => hok.elim (· h.1) (h.2 ·))
      (congrArg (fun z : Timer => x.setTimer n (z.configure data)) hx)
  · subst hlow
    exact exec_write_protected hf rfl (decodeItem_number (.timer n .limit)) (.inl rfl) hg
  · exact exec_write_badValue hf rfl (decodeItem_number (.timer n .limit)) (.inl rfl) hg (decide_eq_true h0)
  · exact exec_write_refused hf rfl (decodeItem_number (.timer n .limit)) (.inl rfl) (priv_of_timerOpen (by decide) hg) (decide_eq_false h0) nofun
      (if_pos hrun)
  · exact exec_write_leaves hf rfl (decodeItem_number (.timer n .limit)) (.inl rfl) (priv_of_timerOpen (by decide) hg) (decide_eq_false h0) nofun
      (if_neg hrun) (congrArg (fun z : Timer => x.setTimer n { z with limit := limit }) hx)

/-! ### The visit of a timer (R137 to R139) -/

theorem State.setTimer_timer (s : State) (n : TimerId) : s.setTimer n (s.timer n) = s := by
  simp [State.setTimer, State.timer]

theorem State.setTimer_setTimer (s : State) (n : TimerId) (x y : Timer) :
    (s.setTimer n x).setTimer n y = s.setTimer n y := by
  simp [State.setTimer]

theorem mergeRequest_eq (s : State) (t : TargetId) : mergeRequest s t = s.requestMerged t := by
  rw [mergeRequest, satInc_byte]
  rfl

theorem requestPulse_eq_pulseAsked (s : State) (t : TargetId) (cause : Cause) :
    requestPulse s t cause = s.pulseAsked t cause := by
  unfold requestPulse State.pulseAsked
  cases (s.restart t).state with
  | run => exact enterRestart_eq ..
  | _ => exact mergeRequest_eq ..

/-- A PULSE request neither looks at a timer nor changes one. -/
theorem State.pulseAsked_setTimer (s : State) (n : TimerId) (x : Timer) (t : TargetId) (cause : Cause) :
    (s.setTimer n x).pulseAsked t cause = (s.pulseAsked t cause).setTimer n x := by
  have hrestart : (s.setTimer n x).restart t = s.restart t := rfl
  unfold State.pulseAsked
  rw [hrestart]
  cases (s.restart t).state <;> rfl

theorem State.pulseAsked_timer (s : State) (t : TargetId) (cause : Cause) (n : TimerId) :
    (s.pulseAsked t cause).timer n = s.timer n := by
  unfold State.pulseAsked
  cases (s.restart t).state <;> rfl

theorem timerSource_eq (n : TimerId) : timerSource n = ⟨16 + n.val, by omega⟩ := by
  revert n
  decide

/-- The lost count after an expiry that finds the mark as it is (R139). -/
def Timer.lostNext (x : Timer) : Byte := if x.mark then (if x.lost = 255 then 255 else x.lost + 1) else x.lost

/-- The state in which a lost expiry has asked for the restart that the timer escalates to (R139). -/
def State.escalated (u : State) (n : TimerId) : State :=
  match (u.timer n).escalation with
  | some t => if (u.timer n).mark = true then (u.pulseAsked t .watchdog).setSticky 6 else u
  | none => u

theorem State.escalated_timer (u : State) (n k : TimerId) : (u.escalated n).timer k = u.timer k := by
  unfold State.escalated
  split
  · split
    · exact State.pulseAsked_timer ..
    · rfl
  · rfl

/-- What a lost expiry leaves (R139): the escalation's request, then the lost count of the timer. -/
theorem loseExpiry_eq (u : State) (n : TimerId) :
    loseExpiry u n = (u.escalated n).setTimer n { u.timer n with lost := (u.timer n).lostNext } := by
  by_cases hm : (u.timer n).mark = true
  · unfold loseExpiry State.escalated Timer.lostNext
    simp only [hm, if_true, satInc_byte]
    cases (u.timer n).escalation with
    | none => rfl
    | some t =>
      simp only [requestPulse_eq_pulseAsked, State.pulseAsked_setTimer]
      rfl
  · have hesc : u.escalated n = u := by
      unfold State.escalated
      split
      · exact if_neg hm
      · rfl
    rw [hesc, Timer.lostNext, if_neg hm, loseExpiry, if_neg hm]
    exact (u.setTimer_timer n).symm

theorem Timer.expiresNext_iff (x : Timer) : x.expiresNext = true ↔ x.state = .running ∧ x.count + 1 = x.limit := by
  simp only [Timer.expiresNext, Bool.and_eq_true, decide_eq_true_eq]

/-- What an expiry leaves: the escalation, the timer as R137 to R139 say, and an edge on its source. -/
theorem expireTimer_eq {u : State} {n : TimerId} (h : (u.timer n).expiresNext = true) :
    expireTimer u n = ((u.escalated n).setTimer n (u.timer n).ticked).raise (timerSource n) := by
  obtain ⟨hrun, hlimit⟩ := (Timer.expiresNext_iff _).1 h
  have hticked : (u.timer n).ticked =
      { u.timer n with
        mark := true
        lost := (u.timer n).lostNext
        count := if (u.timer n).periodic then 0 else (u.timer n).limit
        state := if (u.timer n).periodic then .running else .expired } := by
    rw [Timer.ticked, if_pos hrun, if_pos hlimit]
    rfl
  rw [expireTimer, finishExpiry, loseExpiry_eq, State.timer_setTimer_self, State.setTimer_setTimer, hticked]
  dsimp only
  cases hp : (u.timer n).periodic with
  | false => rfl
  | true => simp only [if_true, hrun]

theorem State.timerVisited_of_expires {u : State} {n : TimerId} (h : (u.timer n).expiresNext = true) :
    u.timerVisited n = ((u.escalated n).setTimer n (u.timer n).ticked).raise (timerSource n) := by
  have hexp := (Timer.expiresNext_iff _).1 h
  rw [timerSource_eq]
  unfold State.timerVisited State.escalated
  simp only [hexp, and_self, true_and, if_true] <;> rfl

theorem State.timerVisited_of_not_expires {u : State} {n : TimerId} (h : ¬ (u.timer n).expiresNext = true) :
    u.timerVisited n = u.setTimer n (u.timer n).ticked := by
  rw [Timer.expiresNext_iff] at h
  unfold State.timerVisited
  simp only [h, false_and, if_false]
  split <;> rfl

/-- A visit is the row of the tables of counting and expiry for the timer as it is found (R137 to R139). -/
theorem visitTimer_eq_timerVisited (u : State) (n : TimerId) : visitTimer u n = u.timerVisited n := by
  by_cases hexp : (u.timer n).expiresNext = true
  · have hrun := ((Timer.expiresNext_iff _).1 hexp).1
    rw [State.timerVisited_of_expires hexp, ← expireTimer_eq hexp, visitTimer, if_pos hrun, if_pos hexp]
  · rw [State.timerVisited_of_not_expires hexp, visitTimer, Timer.ticked]
    rw [Timer.expiresNext_iff] at hexp
    by_cases hrun : (u.timer n).state = .running
    · have hlimit : ¬ (u.timer n).count + 1 = (u.timer n).limit := fun hc => hexp ⟨hrun, hc⟩
      rw [if_pos hrun, if_pos hrun, if_neg hlimit, if_neg (by rw [Timer.expiresNext_iff]; exact hexp)]
    · rw [if_neg hrun, if_neg hrun, State.setTimer_timer]

/-! ### The tick step -/

theorem State.lastTick_arrive (s : State) (m : Moment) : (s.arrive m).sched.lastTick = s.sched.lastTick := by
  by_cases h : m.gap = 0 <;> simp [State.arrive, h, Sched.newInstant]

theorem State.nextTick_arrive (s : State) (m : Moment) :
    (s.arrive m).nextTick = nextIndex s.sched.lastTick ((s.arrive m).now - s.tick.origin) s.tick.period := by
  rw [State.nextTick, State.lastTick_arrive]
  rfl

theorem State.advanceTo_timer (s : State) (i : Nat) (n : TimerId) : (s.advanceTo i).timer n = s.timer n := by
  unfold State.advanceTo
  split <;> rfl

theorem exec_tickStep {s : State} (h : s.inReset = false) (m : Moment) :
    exec (.tickStep m) s = .next (endOfStep (takeTick (s.arrive m))) :=
  congrArg Host.Outcome.next (takeEarlyStep_of_high h m takeTick)

theorem exec_expiry {s : State} (h : s.inReset = false) (m : Moment) (n : TimerId) :
    exec (.expiry m n) s = .next (endOfStep (takeExpiry (s.arrive m) n)) :=
  congrArg Host.Outcome.next (takeEarlyStep_of_high h m (takeExpiry · n))

/-- Settles O50. -/
theorem tickStepVisitsEveryTimer : Obligations.TickStepVisitsEveryTimer := by
  intro m s n hr x y period k u
  have hk : x.nextTick = k := State.nextTick_arrive s m
  have hu : x.atNextTick = u := by
    rw [State.atNextTick, hk]
    rfl
  have hux : u.timer n = x.timer n := State.advanceTo_timer x _ n
  rw [exec_tickStep hr, exec_expiry hr]
  refine ⟨?_, fun hexp => ?_, fun hno => ?_⟩
  · change Host.Outcome.next (endOfStep (takeTick x)) = _
    rw [takeTick, visitTimers, hu, hk]
    simp only [visitTimer_eq_timerVisited]
  · have hexpires : (x.timer n).expiresNext = true := (Timer.expiresNext_iff _).2 hexp
    change Host.Outcome.next (endOfStep (takeExpiry x n)) = _
    rw [← hux] at hexpires
    rw [takeExpiry, ← hux, if_pos hexpires, hu, expireTimer_eq hexpires, State.timerVisited_of_expires hexpires]
  · have hexpires : ¬ (x.timer n).expiresNext = true := fun h =>
      have hexp := (Timer.expiresNext_iff _).1 h
      hno.elim (· hexp.1) (· hexp.2)
    exact congrArg (fun z => Host.Outcome.next (endOfStep z)) (if_neg hexpires)

end Sys2Proof.Machine
end


section
/-! PROOFS. The restart controller and the button (spec/09): requests by origin, pulse ends, the debouncer's samples and
the settings. Settles O51 and O52. -/

namespace Sys2Proof.Machine

open Sys2Proof

/-! ### Requests, releases and pulse ends (R144 to R147) -/

theorem requestHold_eq_holdAsked (s : State) (t : TargetId) (cause : Cause) :
    requestHold s t cause = s.holdAsked t cause := by
  unfold requestHold State.holdAsked
  cases (s.restart t).state with
  | run => exact enterRestart_eq ..
  | pulse _ => rfl
  | held => exact mergeRequest_eq ..

theorem requestRelease_eq (s : State) (t : TargetId) :
    requestRelease s t =
      if (s.restart t).state = .held then s.setRestart t { s.restart t with state := .run } else s := by
  unfold requestRelease
  split
  · next h => rw [if_pos h]
  · next h => rw [if_neg h]

theorem State.advanceTo_restart (s : State) (i : Nat) (t : TargetId) : (s.advanceTo i).restart t = s.restart t := by
  simp only [State.restart, State.advanceTo_restarts]

theorem endPulse_of_pulse {s : State} {t : TargetId} {ends : Nat} (h : (s.restart t).state = .pulse ends) :
    endPulse s t = (s.lateTo ends).setRestart t { s.restart t with state := .run } := by
  simp only [endPulse, h, State.advanceTo_restart, State.lateTo_eq_advanceTo]

theorem endPulse_of_none {s : State} {t : TargetId} (h : ∀ ends, (s.restart t).state ≠ .pulse ends) :
    endPulse s t = s := by
  unfold endPulse
  split
  · next ends hp => exact absurd hp (h ends)
  · rfl

theorem exec_pulseEnd {s : State} (h : s.inReset = false) (m : Moment) (t : TargetId) :
    exec (.pulseEnd m t) s = .next (endOfStep (endPulse (s.arrive m) t)) :=
  congrArg Host.Outcome.next (takeEarlyStep_of_high h m (endPulse · t))

section Mode
variable {arg : BitVec 16}

theorem targetModeOfArg_of_mode {k : TargetId} {hold : Bool} (h : arg.toNat = (if hold then 256 else 0) + k.val) :
    targetModeOfArg arg = some (k, hold) := by
  have hk := k.isLt
  have hlow : arg.toNat % 256 = k.val := by cases hold <;> simp only [if_true, Bool.false_eq_true, if_false] at h <;> omega
  have hhigh : arg.toNat / 256 = if hold then 1 else 0 := by
    cases hold <;> simp only [if_true, Bool.false_eq_true, if_false] at h ⊢ <;> omega
  have hlt : arg.toNat % 256 < 4 := hlow ▸ hk
  have hfin : (⟨arg.toNat % 256, hlt⟩ : TargetId) = k := Fin.ext hlow
  rw [targetModeOfArg, dif_pos hlt, hfin, hhigh]
  cases hold <;> rfl

theorem targetModeOfArg_of_bad (h : 4 ≤ arg.toNat % 256 ∨ 512 ≤ arg.toNat) : targetModeOfArg arg = none := by
  unfold targetModeOfArg
  split
  · rw [if_neg (by omega), if_neg (by omega)]
  · rfl

end Mode

/-- Settles O51. -/
theorem restartRequestsAndPulseEnds : Obligations.RestartRequestsAndPulseEnds := by
  intro m s k arg data x a
  refine ⟨fun hf => ⟨?_, ?_⟩, fun hf => ⟨fun h => ⟨?_, ?_⟩, fun h => ?_, fun h => ?_, fun h => ?_⟩,
    fun hr => ⟨fun ends hp => ?_, fun hp => ?_⟩⟩
  · exact exec_write_leaves hf rfl (decodeItem_number (.rsc .restart)) (.inr rfl) (fun _ => rfl) rfl nofun rfl
      (requestPulse_eq_pulseAsked ..)
  · exact exec_write_protected hf rfl (decodeItem_number (.rsc .restart)) (.inr rfl) rfl
  · have hmode : targetModeOfArg arg = some (k, false) := targetModeOfArg_of_mode (by simpa using h)
    refine ⟨_, rfl, writeCommand_answers hf ?_⟩
    rw [restartCommand, hmode, ← requestPulse_eq_pulseAsked]
    rfl
  · refine ⟨_, rfl, writeCommand_answers hf ?_⟩
    rw [releaseCommand, targetOfArg_of_toNat_eq h]
    dsimp only
    rw [requestRelease_eq]
    rfl
  · have hmode : targetModeOfArg arg = some (k, true) := targetModeOfArg_of_mode (by simpa using h)
    refine ⟨_, rfl, writeCommand_answers hf ?_⟩
    rw [restartCommand, hmode, ← requestHold_eq_holdAsked]
    rfl
  · refine ⟨_, rfl, writeCommand_answers hf ?_⟩
    rw [restartCommand, targetModeOfArg_of_bad h]
    rfl
  · refine ⟨_, rfl, writeCommand_answers hf ?_⟩
    rw [releaseCommand, targetOfArg_of_le h]
    rfl
  · exact (exec_pulseEnd hr m k).trans
      (congrArg (fun z => Host.Outcome.next (endOfStep z)) (endPulse_of_pulse (s := a) hp))
  · exact (exec_pulseEnd hr m k).trans
      (congrArg (fun z => Host.Outcome.next (endOfStep z)) (endPulse_of_none (s := a) hp))

/-! ### The button (R148) -/

theorem RestartUnit.debounce_eq_sampled (x : RestartUnit) (asserted : Bool) :
    x.debounce asserted = x.sampled asserted := by
  unfold RestartUnit.debounce RestartUnit.sampled
  cases x.phase <;> cases asserted <;> rfl

theorem RestartUnit.presses_iff (x : RestartUnit) (asserted : Bool) :
    x.presses asserted = true ↔ x.phase = .pressing ∧ x.run + 1 = 20 ∧ asserted = true := by
  simp only [RestartUnit.presses, Bool.and_eq_true, decide_eq_true_eq, and_assoc, and_comm (a := asserted = true)]

theorem State.pulseAsked_rsc (s : State) (t : TargetId) (cause : Cause) : (s.pulseAsked t cause).rsc = s.rsc := by
  unfold State.pulseAsked
  cases (s.restart t).state <;> rfl

/-- A press is the PULSE requests of the mapped targets: no request changes the map. -/
theorem foldl_pressTarget (map : BitVec 4) (l : List TargetId) :
    ∀ s : State, s.rsc.buttonMap = map →
      l.foldl pressTarget s = (l.filter fun t => map.getLsbD t.val).foldl (fun v t => v.pulseAsked t .button) s := by
  induction l with
  | nil => exact fun _ _ => rfl
  | cons t l ih =>
    intro s hs
    have hpress : pressTarget s t = if map.getLsbD t.val then s.pulseAsked t .button else s := by
      rw [pressTarget, inSet, hs, requestPulse_eq_pulseAsked]
    rw [List.foldl_cons, hpress, List.filter_cons]
    split
    · exact ih _ ((congrArg RestartUnit.buttonMap (State.pulseAsked_rsc s t .button)).trans hs)
    · exact ih _ hs

theorem pressButton_eq (s : State) :
    pressButton s =
      (([0, 1, 2, 3] : List TargetId).filter fun t => s.rsc.buttonMap.getLsbD t.val).foldl
        (fun v t => v.pulseAsked t .button) s :=
  foldl_pressTarget s.rsc.buttonMap [0, 1, 2, 3] s rfl

theorem State.lastMilli_arrive (s : State) (m : Moment) : (s.arrive m).sched.lastMilli = s.sched.lastMilli := by
  by_cases h : m.gap = 0 <;> simp [State.arrive, h, Sched.newInstant]

/-- The state with the sample of millisecond `k` taken and this restart unit. -/
def State.withSample (u : State) (k : Nat) (x : RestartUnit) : State :=
  { u with sched := { u.sched with lastMilli := k }, rsc := x }

/-- The sample of the debouncer before the requests of a press (R148). -/
def State.buttonSampled (s : State) : State :=
  (s.lateTo (s.nextMilli * 32000)).withSample s.nextMilli (s.rsc.sampled s.pins.restartIn)

theorem sampleButton_eq (s : State) :
    sampleButton s = if s.rsc.presses s.pins.restartIn then pressButton s.buttonSampled else s.buttonSampled := by
  have hrsc : (s.lateTo (s.nextMilli * 32000)).rsc = s.rsc := State.advanceTo_rsc ..
  have hpins : (s.lateTo (s.nextMilli * 32000)).pins = s.pins := State.advanceTo_pins ..
  have hunfolded (u : State) (hu : u = s.lateTo (s.nextMilli * 32000)) :
      sampleButton s =
        if u.rsc.presses u.pins.restartIn then pressButton (u.withSample s.nextMilli (u.rsc.debounce u.pins.restartIn))
        else u.withSample s.nextMilli (u.rsc.debounce u.pins.restartIn) := by
    subst hu
    rfl
  rw [hunfolded _ rfl, RestartUnit.debounce_eq_sampled, hrsc, hpins]
  rfl

theorem RestartUnit.sampled_buttonMap (x : RestartUnit) (asserted : Bool) :
    (x.sampled asserted).buttonMap = x.buttonMap := by
  unfold RestartUnit.sampled
  split <;> split_ifs <;> rfl

theorem exec_buttonSample {s : State} (h : s.inReset = false) (m : Moment) :
    exec (.buttonSample m) s = .next (endOfStep (sampleButton (s.arrive m))) :=
  congrArg Host.Outcome.next (takeEarlyStep_of_high h m sampleButton)

theorem exec_buttonPress {s : State} (h : s.inReset = false) (m : Moment) :
    exec (.buttonPress m) s =
      .next (endOfStep (if s.rsc.presses m.pins.restartIn then sampleButton (s.arrive m) else s.arrive m)) :=
  congrArg Host.Outcome.next
    (takeEarlyStep_of_high h m (fun x => if x.rsc.presses x.pins.restartIn then sampleButton x else x))

/-- Settles O52. -/
theorem buttonSamplesAndRestartSettings : Obligations.ButtonSamplesAndRestartSettings := by
  intro m s data x a k u sampled press mapped pressed width withWidth withMap
  have hk : a.nextMilli = k := by
    rw [State.nextMilli, State.lastMilli_arrive]
    rfl
  have hsampled : a.buttonSampled = sampled := by
    rw [State.buttonSampled, hk]
    rfl
  have hpress : a.rsc.presses a.pins.restartIn = true ↔ press := RestartUnit.presses_iff _ _
  refine ⟨fun hr => ⟨fun hp => ?_, fun hp => ?_⟩, fun hf => ⟨?_, ?_, fun h0 => ?_, fun h0 => ?_, ?_⟩,
    fun hf => ⟨fun h0 => ?_, fun h0 => ?_, ?_⟩⟩
  · have hdone : sampleButton a = pressed := by
      rw [sampleButton_eq, if_pos (hpress.2 hp), hsampled, pressButton_eq]
      exact congrArg (fun map : BitVec 4 => (([0, 1, 2, 3] : List TargetId).filter fun t => map.getLsbD t.val).foldl
        (fun v t => v.pulseAsked t .button) sampled) (RestartUnit.sampled_buttonMap s.rsc m.pins.restartIn)
    rw [exec_buttonSample hr, exec_buttonPress hr]
    exact ⟨congrArg (fun z => Host.Outcome.next (endOfStep z)) hdone,
      congrArg (fun z => Host.Outcome.next (endOfStep z)) ((if_pos (hpress.2 hp)).trans hdone)⟩
  · have hdone : sampleButton a = sampled := by
      rw [sampleButton_eq, if_neg (mt hpress.1 hp), hsampled]
    rw [exec_buttonSample hr, exec_buttonPress hr]
    exact ⟨congrArg (fun z => Host.Outcome.next (endOfStep z)) hdone,
      congrArg (fun z => Host.Outcome.next (endOfStep z)) (if_neg (mt hpress.1 hp))⟩
  · exact exec_write_protected hf rfl (decodeItem_number (.rsc .width)) (.inl rfl) rfl
  · exact exec_write_protected hf rfl (decodeItem_number (.rsc .buttonMap)) (.inl rfl) rfl
  · exact exec_write_badValue hf rfl (decodeItem_number (.rsc .width)) (.inl rfl) (.inr rfl) (decide_eq_true h0)
  · exact exec_write_leaves hf rfl (decodeItem_number (.rsc .width)) (.inl rfl) (fun _ => rfl) (decide_eq_false h0) nofun rfl
      rfl
  · exact exec_write_leaves hf rfl (decodeItem_number (.rsc .buttonMap)) (.inl rfl) (fun _ => rfl) rfl nofun rfl
      rfl
  · exact exec_write_frame hf (writeItemCommand_badValue (decodeItem_number (.rsc .width)) rfl (decide_eq_true h0))
  · exact exec_write_frame_leaves hf (.rsc .width) rfl (decide_eq_false h0) rfl
  · exact exec_write_frame_leaves hf (.rsc .buttonMap) rfl rfl rfl

end Sys2Proof.Machine
end


section
/-! PROOFS. What the service port reads (spec/02): the bits of a frame, the levels of SVC_DOUT, STATUS, READ and SNAPSHOT.
Settles O53. -/

namespace Sys2Proof.Machine

open Sys2Proof

/-! ### The bits of a frame and of the reply (R19, R20, R25) -/

/-- Bit `k` of the word that `n` bits of a frame from `lo` on assemble. -/
theorem wordOfBits_drop_take {bits : List Bool} {lo n k : Nat} (h : lo + n ≤ bits.length) (hk : k < n) :
    (wordOfBits n ((bits.drop lo).take n)).getMsbD k = bits.getD (lo + k) false := by
  have hlength : ((bits.drop lo).take n).length = n := by
    rw [List.length_take, List.length_drop]
    omega
  rw [wordOfBits_getMsbD hlength hk]
  simp [List.getD_eq_getElem?_getD, hk]

theorem frame_words (f : Frame) :
    (8 ≤ f.bits.length → ∀ k < 8, f.code.getMsbD k = f.bits.getD k false) ∧
    (24 ≤ f.bits.length → ∀ k < 16, f.arg.getMsbD k = f.bits.getD (8 + k) false) ∧
    (64 ≤ f.bits.length → ∀ k < 32, f.word.getMsbD k = f.bits.getD (32 + k) false) := by
  refine ⟨fun h k hk => ?_, fun h k hk => wordOfBits_drop_take (lo := 8) h hk,
    fun h k hk => wordOfBits_drop_take (lo := 32) h hk⟩
  have hbit := wordOfBits_drop_take (bits := f.bits) (lo := 0) (n := 8) (by simpa using h) hk
  simpa [Frame.code] using hbit

section Dout
variable {s : State}

theorem svcDout_of_idle (h : s.svc.frame = none ∨ s.inReset = true ∨ s.pins.svcSel = false) : s.svcDout = false := by
  unfold State.svcDout
  split
  · rfl
  · next f hf =>
    have hoff : (s.inReset || !s.pins.svcSel) = true := by simpa [hf] using h
    exact if_pos hoff

theorem svcDout_of_frame {f : Frame} (hf : s.svc.frame = some f) (hr : s.inReset = false) (hs : s.pins.svcSel = true) :
    s.svcDout =
      if f.bits.length < 8 then f.summary.getMsbD f.bits.length
      else if f.bits.length < 24 then false
      else if f.bits.length < 32 then (f.status.getD 0).getMsbD (f.bits.length - 24)
      else if f.bits.length < 64 then f.data.getMsbD (f.bits.length - 32)
      else false := by
  simp only [State.svcDout, hf, hr, hs, Bool.not_true, Bool.or_self, Bool.false_eq_true, if_false]

end Dout

/-! ### STATUS and SNAPSHOT (R23, R35) -/

theorem postedWord_fields (p : Posted) :
    (postedWord p).extractLsb' 16 16 = p.arg ∧ (postedWord p).extractLsb' 8 8 = p.code ∧
      (postedWord p).extractLsb' 4 4 = 0 ∧ (postedWord p).extractLsb' 0 4 = p.result := by
  simp only [field_eq_extract]
  refine ⟨?_, ?_, ?_, ?_⟩ <;> simp (disch := omega) [postedWord]

/-- The fields of the sources placed so far. -/
theorem field_snapSources (s : State) (base n j : Nat) (hn : n ≤ 10) (hj : j < 10) :
    field ((List.range n).foldl
      (fun w j => if h : base + j < 38 then w ||| place (s.src ⟨base + j, h⟩).state.code (3 * j) else w) (0 : Word))
        (3 * j) 3 =
      if h : j < n ∧ base + j < 38 then (s.src ⟨base + j, h.2⟩).state.code else 0 := by
  induction n with
  | zero =>
    rw [dif_neg (fun h : j < 0 ∧ base + j < 38 => absurd h.1 (Nat.not_lt_zero j))]
    exact field_of_zero _ _
  | succ n ih =>
    have hrest := ih (by omega)
    rw [List.range_succ, List.foldl_append, List.foldl_cons, List.foldl_nil]
    by_cases hsrc : base + n < 38
    · rw [dif_pos hsrc, field_or, hrest]
      rcases Nat.lt_trichotomy j n with hlt | heq | hgt
      · rw [field_place_of_le (by omega), dif_pos ⟨hlt, by omega⟩, dif_pos ⟨by omega, by omega⟩]
        exact BitVec.or_zero
      · subst heq
        rw [field_place_self (by omega), dif_neg (by omega), dif_pos ⟨by omega, hsrc⟩]
        exact BitVec.zero_or
      · rw [field_place_of_ge (by omega), dif_neg (by omega), dif_neg (by omega)]
        exact BitVec.or_zero
    · rw [dif_neg hsrc, hrest]
      rcases Nat.lt_trichotomy j n with hlt | heq | hgt
      · by_cases hs : base + j < 38
        · rw [dif_pos ⟨hlt, hs⟩, dif_pos ⟨by omega, hs⟩]
        · rw [dif_neg (by omega), dif_neg (by omega)]
      · rw [dif_neg (by omega), dif_neg (by omega)]
      · rw [dif_neg (by omega), dif_neg (by omega)]

theorem snapshot_src (s : State) (i : SourceId) (j : Fin 4) (h : j.val = i.val / 10) :
    s.snapshot.src[j.val].extractLsb' (3 * (i.val % 10)) 3 = (s.src i).state.code := by
  have hword : s.snapshot.src[j.val] = s.snapSources (10 * j.val) := by fin_cases j <;> rfl
  have hindex : 10 * j.val + i.val % 10 = i.val := by omega
  have hfield := field_snapSources s (10 * j.val) 10 (i.val % 10) le_rfl (by omega)
  rw [hword, field_eq_extract, State.snapSources, hfield, dif_pos ⟨by omega, by omega⟩]
  exact congrArg (fun k => (s.src k).state.code) (Fin.ext hindex)

theorem snapTarget_fields {s : State} {k : TargetId} (hs : (s.tgt k).stack.length ≤ 8) (hq : (s.tgt k).urgent.length ≤ 4) :
    let w := s.snapTarget k
    w.extractLsb' 0 5 = (s.tgt k).cpl ∧ (w.extractLsb' 5 4).toNat = (s.tgt k).stack.length ∧
      w.extractLsb' 9 5 = s.offerLevel k ∧ (w.extractLsb' 14 3).toNat = (s.tgt k).urgent.length ∧
      w.extractLsb' 17 2 = (s.restart k).state.code := by
  simp only [field_eq_extract]
  refine ⟨?_, ?_, ?_, ?_, ?_⟩ <;> simp (disch := omega) [State.snapTarget, field_placeNat_toNat]

theorem snapshot_tgt (s : State) (k : TargetId) : s.snapshot.tgt[k.val] = s.snapTarget k := by
  fin_cases k <;> rfl

/-! ### READ of the consuming items (R26, R63, R67, R125) -/

theorem State.offer_of_not_run {s : State} {t : TargetId} (h : ¬ (s.restart t).state = .run) : s.offer t = none := by
  cases ho : s.offer t with
  | none => rfl
  | some i => exact absurd ((State.running_iff _ _).1 (State.running_of_offer ho)) h

theorem State.takeUrgentWord_of_empty {s : State} {t : TargetId}
    (h : ¬ (s.restart t).state = .run ∨ (s.tgt t).urgent = []) : s.takeUrgentWord t = 0x0000003F := by
  unfold State.takeUrgentWord
  split
  · next hrun =>
    rw [h.resolve_left (not_not_intro ((State.running_iff _ _).1 hrun))]
    rfl
  · rfl

theorem Lane.takeRecord_length_of_waiting {x : Lane} {r p : Record} {rest : List Record} {o : Placement}
    (h : x.records = r :: rest) (hs : x.state = .waitRecord p o) : x.takeRecord.records.length = rest.length + 1 := by
  match o, hs with
  | .halt, hs => simp [Lane.takeRecord_of_halt h hs]
  | .continue, hs =>
    rw [Lane.takeRecord_of_continue h hs]
    cases x.queue <;> simp

/-- A READ of an item that the service port sees returns the word of the item and has no effect (R26). -/
theorem exec_read_seen {s : State} {m : Moment} (hf : s.svcFree m) {arg : BitVec 16} {it : Item} {w : Word}
    (hd : decodeItem arg = some it) (ha : svcAccess it ≠ .none) (hw : (s.arrive m).itemWord it = w) :
    ∃ t, exec (.read m arg) s = .next t ∧ ReadFrame (s.arrive m) t (s.arrive m) 0x01 arg .ok w :=
  exec_read_frame hf (hw ▸ readItem_of_seen hd ha _)

/-- Settles O53. -/
theorem serviceReadsAndSnapshot : Obligations.ServiceReadsAndSnapshot := by
  refine ⟨frame_words, fun s => ⟨svcDout_of_idle, fun f hf hr hs => ?_⟩, fun m s arg hfree => ?_⟩
  · have hdout := svcDout_of_frame hf hr hs
    dsimp only
    refine ⟨fun h => ?_, fun h1 h2 => ?_, fun h1 h2 b hb => ?_, fun h1 h2 => ?_, fun h => ?_⟩
    · rw [hdout, if_pos h]
    · rw [hdout, if_neg (by omega), if_pos h2]
    · rw [hdout, if_neg (by omega), if_neg (by omega), if_pos h2, hb, Option.getD_some]
    · rw [hdout, if_neg (by omega), if_neg (by omega), if_neg (by omega), if_pos h2]
    · rw [hdout, if_neg (by omega), if_neg (by omega), if_neg (by omega), if_neg (by omega)]
  · intro a p
    have hsrc (i : SourceId) : a.src i = s.src i := rfl
    have htgt (k : TargetId) : a.tgt k = s.tgt k := rfl
    have hoffer (k : TargetId) : a.offer k = s.offer k := rfl
    have hread {it : Item} {w : Word} (ha : svcAccess it ≠ .none) (hw : a.itemWord it = w) :
        ∃ t, exec (.read m it.number) s = .next t ∧ ReadFrame a t a 0x01 it.number .ok w :=
      exec_read_seen hfree (decodeItem_number it) ha hw
    refine ⟨fun h => ?_, fun h => ?_, fun hd => ?_, fun it hd ha => ?_, fun it hd ha => exec_read_seen hfree hd ha rfl,
      ⟨fun k => ⟨fun hno => ?_, fun i hi => ?_, fun hno => ?_, fun i rest hrun hq => ?_, ?_⟩,
        fun n => ⟨fun hnil => ?_, fun r rest hrec => ⟨fun hs => ?_, fun q o hs => ?_⟩⟩⟩, fun h => ?_, fun h hbounds => ?_⟩
    · exact ⟨_, _, rfl, readCommand_answers hfree (if_pos h), by rw [State.arrive_posted]; exact postedWord_fields p⟩
    · exact ⟨_, rfl, readCommand_answers hfree (if_neg h)⟩
    · exact exec_read_frame hfree (by rw [readItem, hd]; rfl)
    · exact exec_read_frame hfree (by rw [readItem, hd]; exact if_pos ha)
    · have hnone : a.offer k = none := hno.elim State.offer_of_not_run id
      exact hread (it := .tgt k .take) nofun (State.takeWord_of_none hnone)
    · exact hread (it := .tgt k .take) nofun (State.takeWord_of_some hi)
    · exact hread (it := .tgt k .takeUrgent) nofun (State.takeUrgentWord_of_empty hno)
    · exact hread (it := .tgt k .takeUrgent) nofun (State.takeUrgentWord_of_cons ((State.running_iff a k).2 hrun) hq)
    · exact hread (it := .tgt k .doorbell) nofun (congrArg Doorbell.word (State.arrive_bell s m k))
    · refine hread (it := .lane n .record) nofun ?_
      rw [State.itemWord, State.laneWord, State.lane_arrive, Lane.recordReadWord, hnil]
    · refine hread (it := .lane n .record) nofun ?_
      rw [State.itemWord, State.laneWord, State.lane_arrive, Lane.recordReadWord_of_cons hrec,
        Lane.takeRecord_of_not_waiting hrec hs]
    · refine hread (it := .lane n .record) nofun ?_
      rw [State.itemWord, State.laneWord, State.lane_arrive, Lane.recordReadWord_of_cons hrec,
        Lane.takeRecord_length_of_waiting hrec hs]
    · exact ⟨_, rfl, readCommand_answers hfree (if_neg h)⟩
    · refine ⟨_, a.snapshot, rfl, readCommand_answers hfree (if_pos h), ?_, fun i j hj => snapshot_src a i j hj, fun k => ?_⟩
      · exact congrArg (fun v : Snapshot => v.seq + 1) (State.arrive_snap s m)
      · rw [snapshot_tgt]
        exact snapTarget_fields (s := a) (hbounds k).1 (hbounds k).2

end Sys2Proof.Machine
end


section
/-! PROOFS. The frame parser at each look, the command that a code carries, WRITE's checks, HOLD, ALERT_CLEAR, unknown codes
and aborted frames (spec/02). Settles O54. -/

namespace Sys2Proof.Machine

open Sys2Proof

/-! ### The parser (R19, R20, R22, R24, R25) -/

theorem Frame.sample_eq_withBit (f : Frame) (din : Bool) (status : Byte) : f.sample din status = f.withBit din status := by
  unfold Frame.sample Frame.withBit
  by_cases hlen : f.bits.length < 64
  · have hread (g : Frame) : isReadCode g.code = false ↔ 4 ≤ g.code.toNat := by
      simp [isReadCode]
    have hlast : (f.bits ++ [din]).length = 24 ↔ f.bits.length = 23 := by simp
    rw [if_pos (show f.bits.length < Config.frameBits from hlen), if_neg (Nat.not_le.2 hlen)]
    simp only [hread, hlast]
  · rw [if_neg (show ¬ f.bits.length < Config.frameBits from hlen), if_pos (Nat.not_lt.1 hlen)]

theorem Frame.due_iff (f : Frame) : f.due = true ↔ f.complete := by
  simp only [Frame.due, Frame.complete, executionBits, isReadCode, Bool.and_eq_true, Bool.not_eq_true', decide_eq_true_eq]

theorem ServicePort.release_eq (v : ServicePort) :
    v.release = { v with sel := false, waitRelease := false, frame := none, aborts := v.abortsAfter v.frame } := by
  unfold ServicePort.release ServicePort.abortsAfter
  cases v.frame with
  | none => rfl
  | some f => simp only [Option.any_some, decide_eq_true_eq]; rfl

theorem ServicePort.not_frameDue {v : ServicePort} (h : ∀ f, v.frame = some f → ¬ f.complete) : v.frameDue = false := by
  unfold ServicePort.frameDue
  cases hf : v.frame with
  | none => rfl
  | some f => exact Bool.eq_false_iff.2 fun hd => h f hf ((Frame.due_iff f).1 hd)

theorem ServicePort.frameDue_of_complete {v : ServicePort} {f : Frame} (hf : v.frame = some f) (h : f.complete) :
    v.frameDue = true := by
  rw [ServicePort.frameDue, hf]
  exact (Frame.due_iff f).2 h

section See
variable {v : ServicePort} {p : Pins} {a b : Byte}

theorem ServicePort.see_idle (hsel : v.sel = false) (hp : p.svcSel = false) : v.see p a b = { v with clk := p.svcClk } := by
  simp only [ServicePort.see, hsel, hp, Bool.false_and, Bool.and_false, Bool.false_eq_true, if_false]

theorem ServicePort.see_begins (hsel : v.sel = false) (hp : p.svcSel = true) (hrise : (p.svcClk && !v.clk) = false) :
    v.see p a b = { v with sel := true, clk := p.svcClk, frame := some (.begun a) } := by
  simp only [ServicePort.see, hsel, hp, hrise, Bool.false_and, Bool.true_and, Bool.not_false, Bool.false_eq_true, if_false,
    if_true]

theorem ServicePort.see_begins_withBit (hsel : v.sel = false) (hp : p.svcSel = true) (hclk : p.svcClk = true)
    (hlow : v.clk = false) :
    v.see p a b = { v with sel := true, clk := true, frame := some ⟨[p.svcDin], false, a, none, 0⟩ } := by
  simp only [ServicePort.see, hsel, hp, hclk, hlow, Bool.false_and, Bool.true_and, Bool.not_false, Bool.false_eq_true,
    if_false, if_true, Option.map_some]
  rfl

/-- A look at a selected port: the bit that a rising edge completes, then the release that the pins show. -/
theorem ServicePort.see_selected (hsel : v.sel = true) :
    v.see p a b =
      (let w : ServicePort :=
        { v with
          clk := p.svcClk
          frame := if p.svcClk && !v.clk then v.frame.map fun f => f.withBit p.svcDin b else v.frame }
      if !p.svcSel && !w.frameDue then w.release else w) := by
  obtain ⟨frame, waiting, sel, clk, aborts, posted, sticky, mask, alert, doorbells, snap, abortCount⟩ := v
  cases hsel
  simp only [ServicePort.see, Frame.sample_eq_withBit, Bool.not_true, Bool.and_false, Bool.false_eq_true, if_false,
    Bool.and_true, Bool.true_and]
  cases p.svcClk && !clk <;> rfl

theorem ServicePort.see_stays (hsel : v.sel = true) {f : Option Frame}
    (hf : (if p.svcClk && !v.clk then v.frame.map fun f => f.withBit p.svcDin b else v.frame) = f)
    (h : p.svcSel = true ∨ ∃ g, f = some g ∧ g.complete) : v.see p a b = { v with clk := p.svcClk, frame := f } := by
  subst hf
  rw [ServicePort.see_selected hsel]
  refine if_neg fun hrelease => ?_
  obtain ⟨hp, hdue⟩ := Bool.and_eq_true_iff.1 hrelease
  rcases h with h | ⟨g, hg, hcomplete⟩
  · rw [h] at hp
    cases hp
  · rw [ServicePort.frameDue_of_complete hg hcomplete] at hdue
    cases hdue

theorem ServicePort.see_releases (hsel : v.sel = true) {f : Option Frame}
    (hf : (if p.svcClk && !v.clk then v.frame.map fun f => f.withBit p.svcDin b else v.frame) = f)
    (hp : p.svcSel = false) (h : ∀ g, f = some g → ¬ g.complete) :
    v.see p a b =
      { v with sel := false, clk := p.svcClk, waitRelease := false, frame := none, aborts := v.abortsAfter f } := by
  subst hf
  rw [ServicePort.see_selected hsel]
  refine (if_pos ?_).trans (ServicePort.release_eq _)
  rw [hp, ServicePort.not_frameDue h]
  rfl

/-- An edge seen by a port that waits for the release of SVC_SEL completes no bit, and the release ends the wait. -/
theorem ServicePort.see_outside_frame (hsel : v.sel = true) (hclk : p.svcClk = true) (hf : v.frame = none) :
    v.see p a b = { v with sel := p.svcSel, clk := true, waitRelease := v.waitRelease && p.svcSel } := by
  have hbit : (if p.svcClk && !v.clk then v.frame.map fun f => f.withBit p.svcDin b else v.frame) = none := by
    rw [hf]
    exact ite_self _
  cases hp : p.svcSel with
  | true =>
    rw [ServicePort.see_stays hsel hbit (.inl hp), hclk, Bool.and_true, ← hf, ← hsel]
  | false =>
    have haborts : v.abortsAfter none = v.aborts := rfl
    rw [ServicePort.see_releases hsel hbit hp nofun, haborts, hclk, Bool.and_false, ← hf]

end See

theorem look_of_see {s : State} (hr : s.inReset = false) {v : ServicePort}
    (h : s.svc.see s.pins s.alertSummary (alertBit s.svc.alert ||| 0x40 ||| s.svc.posted.result.setWidth 8) = v) :
    s.look = { s with svc := v } := by
  rw [State.look, hr, writeStatus_eq, h]
  rfl

/-- The parser at one look: its rows by SVC_SEL, by a rising edge of SVC_CLK, and by the release (R19, R152). -/
theorem look_rows (s : State) (hr : s.inReset = false) :
    let v := s.svc
    let p := s.pins
    let rises := p.svcClk = true ∧ v.clk = false
    (v.sel = false → p.svcSel = false → s.look = { s with svc := { v with clk := p.svcClk } }) ∧
    (v.sel = false → p.svcSel = true → ¬ rises →
      s.look = { s with svc := { v with
        sel := true, clk := p.svcClk, frame := some ⟨[], false, s.alertSummary, none, 0⟩ } }) ∧
    (v.sel = false → p.svcSel = true → rises →
      s.look = { s with svc := { v with
        sel := true, clk := true, frame := some ⟨[p.svcDin], false, s.alertSummary, none, 0⟩ } }) ∧
    (v.sel = true → p.svcSel = true → ¬ rises → s.look = { s with svc := { v with clk := p.svcClk } }) ∧
    (v.sel = true → p.svcSel = false → ¬ rises →
      ((∀ f, v.frame = some f → ¬ f.complete) → s.look = { s with svc := { v with
        sel := false, clk := p.svcClk, waitRelease := false, frame := none, aborts := v.abortsAfter v.frame } }) ∧
      (∀ f, v.frame = some f → f.complete → s.look = { s with svc := { v with clk := p.svcClk } })) ∧
    (v.sel = true → rises → ∀ f, v.frame = some f →
      let g := f.withBit p.svcDin (alertBit v.alert ||| 0x40 ||| v.posted.result.setWidth 8)
      (p.svcSel = true ∨ g.complete → s.look = { s with svc := { v with clk := true, frame := some g } }) ∧
      (p.svcSel = false → ¬ g.complete → s.look = { s with svc := { v with
        sel := false, clk := true, waitRelease := false, frame := none, aborts := v.abortsAfter (some g) } })) ∧
    (v.sel = true → rises → v.frame = none →
      s.look = { s with svc := { v with
        sel := p.svcSel, clk := true, waitRelease := v.waitRelease && p.svcSel } }) := by
  intro v p rises
  have hrises : (p.svcClk && !v.clk) = true ↔ rises := by
    rw [Bool.and_eq_true, Bool.not_eq_true']
  have hlevel (h : ¬ rises) (f : Frame → Frame) : (if p.svcClk && !v.clk then v.frame.map f else v.frame) = v.frame :=
    if_neg (mt hrises.1 h)
  have hbit (h : rises) (f : Frame) (hf : v.frame = some f) (b : Byte) :
      (if p.svcClk && !v.clk then v.frame.map fun f => f.withBit p.svcDin b else v.frame) = some (f.withBit p.svcDin b) := by
    rw [if_pos (hrises.2 h), hf]
    rfl
  refine ⟨fun hsel hp => ?_, fun hsel hp hno => ?_, fun hsel hp hup => ?_, fun hsel hp hno => ?_,
    fun hsel hp hno => ⟨fun hc => ?_, fun f hf hc => ?_⟩, fun hsel hup f hf => ⟨fun hstay => ?_, fun hp hc => ?_⟩,
    fun hsel hup hf => ?_⟩
  · exact look_of_see hr (ServicePort.see_idle hsel hp)
  · exact look_of_see hr (ServicePort.see_begins hsel hp (Bool.eq_false_iff.2 (mt hrises.1 hno)))
  · exact look_of_see hr (ServicePort.see_begins_withBit hsel hp hup.1 hup.2)
  · exact look_of_see hr (ServicePort.see_stays hsel (hlevel hno _) (.inl hp))
  · exact look_of_see hr (ServicePort.see_releases hsel (hlevel hno _) hp hc)
  · exact look_of_see hr (ServicePort.see_stays hsel (hlevel hno _) (.inr ⟨f, hf, hc⟩))
  · refine (look_of_see hr (ServicePort.see_stays hsel (hbit hup f hf _) (hstay.imp id fun hc => ⟨_, rfl, hc⟩))).trans ?_
    rw [hup.1]
  · refine (look_of_see hr (ServicePort.see_releases hsel (hbit hup f hf _) hp fun g hg => ?_)).trans ?_
    · cases hg
      exact hc
    · rw [hup.1]
  · exact look_of_see hr (ServicePort.see_outside_frame hsel hup.1 hf)

/-! ### The command of each code, and the wait of R19 -/

/-- A code that is the number of a known one is known. -/
theorem mem_knownCodes {code : Byte} (h : code.toNat ∈ knownCodes.map BitVec.toNat) : code ∈ knownCodes := by
  obtain ⟨known, hmem, heq⟩ := List.mem_map.1 h
  exact BitVec.eq_of_toNat_eq heq ▸ hmem

theorem commandOf_of_unknown {code : Byte} (h : code ∉ knownCodes) (m : Moment) (arg : BitVec 16) (data : Word) :
    commandOf m code arg data = .badCommand m code arg data := by
  have hcode : code.toNat ∉ knownCodes.map BitVec.toNat := mt mem_knownCodes h
  simp only [knownCodes, List.map_cons, List.map_nil, List.mem_cons, List.not_mem_nil, not_or, or_false] at hcode
  unfold commandOf
  split
  case h_15 => rfl
  all_goals simp [*] at hcode

/-- The command of a code is a read-type or a write-type command (R21). -/
theorem exec_commandOf (m : Moment) (code : Byte) (arg : BitVec 16) (data : Word) (s : State) :
    (∃ c act, exec (commandOf m code arg data) s = .next (readCommand m c arg act s)) ∨
      ∃ c act, exec (commandOf m code arg data) s = .next (writeCommand m c arg data act s) := by
  unfold commandOf
  split
  case h_1 | h_2 | h_3 | h_4 => exact .inl ⟨_, _, rfl⟩
  all_goals exact .inr ⟨_, _, rfl⟩

section Waiting
variable {s : State} {m : Moment} (hr : s.inReset = false) (hw : (s.arrive m).svc.waitRelease = true)
include hr hw

theorem readCommand_of_wait (code : Byte) (arg : BitVec 16) (act : State → Reply) :
    readCommand m code arg act s = endOfStep (s.enter m) := by
  rw [readCommand, hr, if_neg Bool.false_ne_true]
  exact if_pos hw

theorem writeCommand_of_wait (code : Byte) (arg : BitVec 16) (data : Word) (act : State → Reply) :
    writeCommand m code arg data act s = endOfStep (s.enter m) := by
  rw [writeCommand, hr, if_neg Bool.false_ne_true]
  exact if_pos hw

/-- No command executes while the hub waits for the release of SVC_SEL (R19). -/
theorem exec_commandOf_of_wait (code : Byte) (arg : BitVec 16) (data : Word) :
    exec (commandOf m code arg data) s = .next (endOfStep (s.enter m)) := by
  rcases exec_commandOf m code arg data s with ⟨c, act, h⟩ | ⟨c, act, h⟩
  · rw [h, readCommand_of_wait hr hw]
  · rw [h, writeCommand_of_wait hr hw]

end Waiting

theorem exec_abortedFrame {s : State} (hr : s.inReset = false) (m : Moment) :
    exec (.abortedFrame m) s =
      .next (endOfStep (if (s.arrive m).svc.waitRelease then s.enter m else abortFrame (s.enter m))) :=
  congrArg Host.Outcome.next (takeStep_of_high hr m _)

/-- Settles O54. -/
theorem serviceWritesAndAborts : Obligations.ServiceWritesAndAborts := by
  refine ⟨fun s hr => ?_, look_rows, fun m arg data => ?_, fun m code arg data s hr hw => ?_,
    fun m s arg k code data => ⟨fun hf => ?_, fun hf => ?_⟩⟩
  · rw [State.look, if_pos hr]
  · exact ⟨rfl, rfl, rfl, rfl, rfl, rfl, rfl, rfl, rfl, rfl, rfl, rfl, rfl, rfl, fun code h => commandOf_of_unknown h m arg data⟩
  · refine ⟨exec_commandOf_of_wait hr hw code arg data, ?_⟩
    rw [exec_abortedFrame hr, if_pos hw]
  · refine ⟨fun hd => ?_, fun it hd => ⟨fun ha => ?_, fun ha => ?_, fun ha hv => ?_⟩, ?_, fun hold h => ?_, fun h => ?_,
      fun h => ?_, fun h => ?_, fun _ => ?_⟩
    · exact exec_write_frame hf (by rw [writeItemCommand, hd]; rfl)
    · exact exec_write_frame hf (by rw [writeItemCommand, hd]; dsimp only; rw [ha]; rfl)
    · exact exec_write_frame hf (writeItemCommand_readOnly hd ha ..)
    · exact exec_write_frame hf (writeItemCommand_badValue hd ha hv)
    · exact exec_write_frame_leaves hf (.alert .mask) rfl rfl rfl
    · refine ⟨_, rfl, writeCommand_answers hf ?_⟩
      rw [holdCommand, targetModeOfArg_of_mode h]
      rfl
    · refine ⟨_, rfl, writeCommand_answers hf ?_⟩
      rw [holdCommand, targetModeOfArg_of_bad h]
      rfl
    · refine ⟨_, rfl, writeCommand_answers hf ?_⟩
      rw [alertClearCommand, if_pos h, State.arrive_sticky]
      rfl
    · exact ⟨_, rfl, writeCommand_answers hf (if_neg h)⟩
    · exact ⟨_, rfl, writeCommand_answers hf rfl⟩
  · rw [exec_abortedFrame hf.1, hf.2, if_neg Bool.false_ne_true, abortFrame, satInc_byte, State.enter_abortCount]

end Sys2Proof.Machine
end


section
/-! PROOFS. The urgent activations at the end of a step (R51, R52, R55): what one of them makes of its target and of its
source, and the urgent queue that all of them leave. Settles O24. -/

namespace Sys2Proof.Machine

open Sys2Proof

/-! ### What reaches a source (R51) -/

theorem activations_of_urgentLevel {u : State} {i : SourceId} (hc : (u.src i).entry.cls = .urgent)
    (ht : (u.src i).entry.trigger = .level) :
    activations u i = if u.inputOf i = true ∧ (u.src i).input = false then 1 else 0 := by
  simp only [activations, hc, ht, and_self, if_true, Bool.and_eq_true, Bool.not_eq_true']

theorem activations_of_edges {u : State} {i : SourceId}
    (h : (u.src i).entry.cls = .normal ∨ (u.src i).entry.trigger = .edge) : activations u i = u.raised.count i := by
  have hno : ¬ ((u.src i).entry.cls = .urgent ∧ (u.src i).entry.trigger = .level) := by
    rintro ⟨hc, ht⟩
    rcases h with h | h
    · rw [hc] at h
      cases h
    · rw [ht] at h
      cases h
  exact if_neg hno

theorem activations_le_one {u : State} (h : u.raised.Nodup) (i : SourceId) : activations u i ≤ 1 := by
  have hcount : u.raised.count i ≤ 1 := List.nodup_iff_count_le_one.1 h i
  unfold activations
  dsimp only
  split
  · split <;> omega
  · exact hcount

/-! ### One arrival -/

/-- A target at which urgent source `i` arrives (R51, R52): a place in its urgent queue, or a loss. -/
def Target.withArrival (run : Bool) (x : Target) (i : SourceId) : Target :=
  if x.urgent.length < 4 ∧ run = true then { x with urgent := x.urgent ++ [i] }
  else { x with lost := if x.lost = 255 then 255 else x.lost + 1 }

section Admit
variable {s : State} {i : SourceId} {f : TargetId} (hf : (s.src i).entry.fixed = f)
include hf

theorem admitUrgent_of_room (h : (s.tgt f).urgent.length < 4 ∧ s.running f = true) :
    admitUrgent s i =
      (s.setSrc i { s.src i with state := .queued f }).setTgt f { s.tgt f with urgent := (s.tgt f).urgent ++ [i] } := by
  subst hf
  exact if_pos h

theorem admitUrgent_of_lost (h : ¬ ((s.tgt f).urgent.length < 4 ∧ s.running f = true)) :
    admitUrgent s i =
      s.setTgt f { s.tgt f with lost := if (s.tgt f).lost = 255 then 255 else (s.tgt f).lost + 1 } := by
  subst hf
  rw [← satInc_byte]
  exact if_neg h

theorem admitUrgent_tgt : (admitUrgent s i).tgt f = (s.tgt f).withArrival (s.running f) i := by
  unfold Target.withArrival
  by_cases h : (s.tgt f).urgent.length < 4 ∧ s.running f = true
  · rw [admitUrgent_of_room hf h, if_pos h, State.tgt_setTgt_self]
  · rw [admitUrgent_of_lost hf h, if_neg h, State.tgt_setTgt_self]

theorem admitUrgent_tgt_ne {k : TargetId} (hk : f ≠ k) : (admitUrgent s i).tgt k = s.tgt k := by
  by_cases h : (s.tgt f).urgent.length < 4 ∧ s.running f = true
  · rw [admitUrgent_of_room hf h, State.tgt_setTgt_ne _ hk]
    rfl
  · rw [admitUrgent_of_lost hf h, State.tgt_setTgt_ne _ hk]

theorem admitUrgent_src :
    (admitUrgent s i).src i =
      if (s.tgt f).urgent.length < 4 ∧ s.running f = true then { s.src i with state := .queued f } else s.src i := by
  by_cases h : (s.tgt f).urgent.length < 4 ∧ s.running f = true
  · rw [admitUrgent_of_room hf h, if_pos h]
    exact State.src_setSrc_self ..
  · rw [admitUrgent_of_lost hf h, if_neg h]
    rfl

end Admit

/-! ### One activation -/

/-- Source `i` once it shows its input: what an activation starts from. -/
def State.showing (v : State) (i : SourceId) : State := v.setSrc i { v.src i with input := v.inputOf i }

section Activate
variable {v : State} {i : SourceId}

theorem State.showing_src : (v.showing i).src i = { v.src i with input := v.inputOf i } := State.src_setSrc_self ..

theorem activate_of_quiet (h : activations v i = 0) :
    activate v i = (v.showing i).setSrc i ((v.showing i).src i).followInput := by
  rw [activate, h]
  rfl

theorem activate_of_one (h : activations v i = 1) :
    activate v i = (applyEdge (v.showing i) i).setSrc i ((applyEdge (v.showing i) i).src i).followInput := by
  rw [activate, h]
  rfl

theorem applyEdge_of_urgent {s : State} (he : (s.src i).entry.enable = true) (hc : (s.src i).entry.cls = .urgent) :
    applyEdge s i = urgentEdge s i := by
  rw [applyEdge, he, hc]
  exact if_neg (by decide)

/-- Only an enabled URGENT source that is IDLE reaches a target (R51, R52). -/
theorem applyEdge_tgt_of_not {s : State} {k : TargetId}
    (h : ¬ ((s.src i).entry.enable = true ∧ (s.src i).entry.cls = .urgent ∧ (s.src i).entry.fixed = k ∧
      (s.src i).state = .idle)) : (applyEdge s i).tgt k = s.tgt k := by
  unfold applyEdge
  dsimp only
  split
  · rfl
  · next he =>
    split
    · rfl
    · rfl
    · next hc =>
      unfold urgentEdge
      split
      · next hs => exact admitUrgent_tgt_ne rfl fun hk => h ⟨by simpa using he, hc, hk, hs⟩
      · rfl
      · rfl

theorem State.arrives_iff {k : TargetId} :
    v.arrives k i = true ↔ (v.src i).entry.enable = true ∧ (v.src i).entry.cls = .urgent ∧ (v.src i).entry.fixed = k ∧
      (v.src i).state = .idle ∧ activations v i ≠ 0 := by
  simp only [State.arrives, Bool.and_eq_true, decide_eq_true_eq, and_assoc]

theorem activate_of_arrives {k : TargetId} (hn : activations v i ≤ 1) (h : v.arrives k i = true) :
    activate v i =
      (admitUrgent (v.showing i) i).setSrc i ((admitUrgent (v.showing i) i).src i).followInput := by
  obtain ⟨he, hc, -, hs, hact⟩ := State.arrives_iff.1 h
  have hsrc := State.showing_src (v := v) (i := i)
  have hedge : applyEdge (v.showing i) i = admitUrgent (v.showing i) i := by
    rw [applyEdge_of_urgent (by rw [hsrc]; exact he) (by rw [hsrc]; exact hc), urgentEdge, hsrc]
    dsimp only
    rw [hs]
  rw [activate_of_one (by omega), hedge]

/-- What an activation makes of a target: an arrival there, or nothing (R51, R52). -/
theorem activate_tgt (hn : activations v i ≤ 1) (k : TargetId) :
    (activate v i).tgt k = if v.arrives k i = true then (v.tgt k).withArrival (v.running k) i else v.tgt k := by
  have hsrc := State.showing_src (v := v) (i := i)
  by_cases h : v.arrives k i = true
  · obtain ⟨-, -, hfixed, -, -⟩ := State.arrives_iff.1 h
    rw [if_pos h, activate_of_arrives hn h]
    exact admitUrgent_tgt (by rw [hsrc]; exact hfixed)
  · rw [if_neg h]
    by_cases hact : activations v i = 0
    · rw [activate_of_quiet hact]
      rfl
    · rw [activate_of_one (by omega)]
      refine applyEdge_tgt_of_not fun hreach => h (State.arrives_iff.2 ?_)
      rw [hsrc] at hreach
      obtain ⟨he, hc, hfixed, hs⟩ := hreach
      exact ⟨he, hc, hfixed, hs, hact⟩

/-- What an arrival makes of its source: QUEUED with a place, IDLE when it is lost, and no merge (R51, R52). -/
theorem activate_src_of_arrives {k : TargetId} (hn : activations v i ≤ 1) (h : v.arrives k i = true) :
    ((activate v i).src i).merge = (v.src i).merge ∧
      ((activate v i).src i).state =
        if (v.tgt k).urgent.length < 4 ∧ v.running k = true then .queued k else .idle := by
  obtain ⟨-, hc, hfixed, hs, -⟩ := State.arrives_iff.1 h
  have hsrc := State.showing_src (v := v) (i := i)
  have harrival := admitUrgent_src (s := v.showing i) (i := i) (f := k) (by rw [hsrc]; exact hfixed)
  rw [hsrc] at harrival
  rw [activate_of_arrives hn h, State.src_setSrc_self, harrival]
  have hroom : ((v.showing i).tgt k).urgent.length < 4 ∧ (v.showing i).running k = true ↔
      (v.tgt k).urgent.length < 4 ∧ v.running k = true := Iff.rfl
  rw [Source.followInput_of_not (by split <;> simp [hc])]
  by_cases hr : (v.tgt k).urgent.length < 4 ∧ v.running k = true
  · rw [if_pos (hroom.2 hr), if_pos hr]
    exact ⟨rfl, rfl⟩
  · rw [if_neg (mt hroom.1 hr), if_neg hr]
    exact ⟨rfl, hs⟩

/-- An activation of a QUEUED source counts a merge, and the source keeps its place (R51). -/
theorem activate_src_of_queued {k : TargetId} (hn : activations v i ≤ 1) (he : (v.src i).entry.enable = true)
    (hc : (v.src i).entry.cls = .urgent) (hs : (v.src i).state = .queued k) :
    ((activate v i).src i).state = .queued k ∧
      ((activate v i).src i).merge =
        if activations v i = 0 then (v.src i).merge
        else if (v.src i).merge = 255 then 255 else (v.src i).merge + 1 := by
  have hsrc := State.showing_src (v := v) (i := i)
  by_cases hact : activations v i = 0
  · rw [activate_of_quiet hact, State.src_setSrc_self, hsrc, Source.followInput_of_not (by simp [hc]), if_pos hact]
    exact ⟨hs, rfl⟩
  · have hedge : applyEdge (v.showing i) i = (v.showing i).setSrc i ((v.showing i).src i).merged := by
      rw [applyEdge_of_urgent (by rw [hsrc]; exact he) (by rw [hsrc]; exact hc), urgentEdge, hsrc]
      dsimp only
      rw [hs]
    have hmerged : ((v.showing i).src i).merged.entry = (v.src i).entry := by rw [hsrc]; rfl
    rw [activate_of_one (by omega), hedge, State.src_setSrc_self, State.src_setSrc_self,
      Source.followInput_of_not (by simp [hmerged, hc]), if_neg hact, hsrc, ← satInc_byte]
    exact ⟨hs, rfl⟩

end Activate

/-! ### All activations of a step (R55) -/

theorem lost_count (c : Byte) : (if c = 255 then (255 : Byte) else c + 1).toNat = min 255 (c.toNat + 1) := by
  split
  · next h => rw [h]; rfl
  · next h =>
    have hmax : c.toNat ≠ 255 := fun heq => h (BitVec.eq_of_toNat_eq heq)
    have hlt := c.isLt
    rw [BitVec.toNat_add, show (1 : Byte).toNat = 1 from rfl]
    omega

/-- Arrivals of these sources, one after another. -/
theorem foldl_withArrival (run : Bool) (l : List SourceId) (x : Target) :
    let taken := if run = true then l.take (4 - x.urgent.length) else []
    (l.foldl (Target.withArrival run) x).urgent = x.urgent ++ taken ∧
      (l.foldl (Target.withArrival run) x).lost.toNat = min 255 (x.lost.toNat + (l.length - taken.length)) := by
  induction l generalizing x with
  | nil =>
    have hlost : x.lost.toNat < 256 := x.lost.isLt
    simp only [List.foldl_nil, List.take_nil, ite_self, List.append_nil, List.length_nil, true_and]
    omega
  | cons i l ih =>
    obtain ⟨hqueue, hlost⟩ := ih (x.withArrival run i)
    rw [List.foldl_cons]
    by_cases hroom : x.urgent.length < 4 ∧ run = true
    · obtain ⟨hlen, hrun⟩ := hroom
      have harrival : x.withArrival run i = { x with urgent := x.urgent ++ [i] } := if_pos ⟨hlen, hrun⟩
      have htake : (i :: l).take (4 - x.urgent.length) = i :: l.take (4 - (x.urgent.length + 1)) := by
        rw [show 4 - x.urgent.length = (4 - (x.urgent.length + 1)) + 1 by omega, List.take_succ_cons]
      rw [harrival] at hqueue hlost ⊢
      simp only [if_pos hrun, List.length_append, List.length_singleton] at hqueue hlost ⊢
      rw [htake]
      refine ⟨by rw [hqueue, List.append_assoc]; rfl, ?_⟩
      rw [hlost, List.length_cons, List.length_cons]
      omega
    · have harrival : x.withArrival run i = { x with lost := if x.lost = 255 then 255 else x.lost + 1 } := if_neg hroom
      have hnone (l : List SourceId) : (if run = true then l.take (4 - x.urgent.length) else []) = [] := by
        by_cases hrun : run = true
        · have hfull : ¬ x.urgent.length < 4 := fun hlen => hroom ⟨hlen, hrun⟩
          have hnoroom : 4 - x.urgent.length = 0 := by omega
          rw [if_pos hrun, hnoroom, List.take_zero]
        · rw [if_neg hrun]
      rw [harrival] at hqueue hlost ⊢
      simp only [hnone, List.append_nil, List.length_nil, Nat.sub_zero, List.length_cons] at hqueue hlost ⊢
      refine ⟨hqueue, ?_⟩
      rw [hlost, lost_count]
      omega

/-- What decides an activation of a source: its own record, its input and the edges raised. -/
theorem OnlyActivated.arrives {u v : State} (h : OnlyActivated u v) {i : SourceId} (hi : v.src i = u.src i)
    (k : TargetId) : v.arrives k i = u.arrives k i := by
  unfold State.arrives
  rw [hi, h.activations hi]

/-- The activations of these sources, seen from one target. -/
theorem foldl_activate_tgt {u : State} (hr : u.raised.Nodup) (k : TargetId) {l : List SourceId} (hl : l.Nodup)
    {v : State} (hv : OnlyActivated u v) (hsrc : ∀ i ∈ l, v.src i = u.src i) :
    (l.foldl activate v).tgt k = (l.filter (u.arrives k)).foldl (Target.withArrival (u.running k)) (v.tgt k) := by
  induction l generalizing v with
  | nil => rfl
  | cons i l ih =>
    obtain ⟨hi, hl⟩ := List.nodup_cons.1 hl
    have hown : v.src i = u.src i := hsrc i List.mem_cons_self
    have hone : activations v i ≤ 1 := by
      rw [hv.activations hown]
      exact activations_le_one hr i
    have hnext : ∀ j ∈ l, (activate v i).src j = u.src j := fun j hj =>
      (activate_src_ne v fun hij => hi (by rw [hij]; exact hj)).trans (hsrc j (List.mem_cons_of_mem _ hj))
    rw [List.foldl_cons, ih hl (hv.trans (onlyActivated_activate v i)) hnext, activate_tgt hone k, hv.arrives hown k,
      hv.running k, List.filter_cons]
    split <;> rfl

/-- The source that the activations leave is what its own activation makes of it, after those of the lower numbers. -/
theorem activateAll_split (s : State) (i : SourceId) :
    ∃ l₁ l₂, allSources = l₁ ++ i :: l₂ ∧ i ∉ l₁ ∧ l₁.Nodup ∧
      (activateAll s).src i = (activate (l₁.foldl activate s) i).src i := by
  obtain ⟨l₁, l₂, hl⟩ := List.append_of_mem (mem_allSources i)
  have hnodup : (l₁ ++ i :: l₂).Nodup := hl ▸ List.nodup_finRange 38
  obtain ⟨h₁, h₂, hdisjoint⟩ := List.nodup_append.1 hnodup
  have hi₁ : i ∉ l₁ := fun hmem => hdisjoint i hmem i List.mem_cons_self rfl
  have hi₂ : i ∉ l₂ := (List.nodup_cons.1 h₂).1
  refine ⟨l₁, l₂, hl, hi₁, h₁, ?_⟩
  rw [activateAll, hl, List.foldl_append, List.foldl_cons, foldl_activate_src_notMem hi₂]

/-- The first place of an element in a list decides whether it is among the first ones. -/
theorem mem_take_append_cons {l₁ l₂ : List SourceId} {i : SourceId} (h₁ : i ∉ l₁) (n : Nat) :
    i ∈ (l₁ ++ i :: l₂).take n ↔ l₁.length < n := by
  rw [List.take_append, List.mem_append]
  constructor
  · rintro (h | h)
    · exact absurd (List.mem_of_mem_take h) h₁
    · by_contra hno
      rw [show n - l₁.length = 0 by omega] at h
      simp at h
  · intro h
    rw [show n - l₁.length = (n - l₁.length - 1) + 1 by omega, List.take_succ_cons]
    exact .inr List.mem_cons_self

/-- Settles O24. -/
theorem urgentArrivalsTakePlacesInSourceOrder : Obligations.UrgentArrivalsTakePlacesInSourceOrder := by
  intro u f hraised hlength q arrived taken
  have htgt : (endOfStep u).tgt f = arrived.foldl (Target.withArrival (u.running f)) (u.tgt f) := by
    rw [endOfStep_tgt]
    exact foldl_activate_tgt hraised f (List.nodup_finRange 38) (.refl u) fun _ _ => rfl
  obtain ⟨hqueue, hlost⟩ := foldl_withArrival (u.running f) arrived (u.tgt f)
  refine ⟨by rw [htgt]; exact hqueue, by rw [htgt]; exact hlost, fun i hi => ?_, fun i hs he hc => ?_,
    fun i => ⟨activations_of_urgentLevel, activations_of_edges⟩⟩
  · obtain ⟨l₁, l₂, hl, hi₁, hnodup, hsrc⟩ := activateAll_split u i
    have hbefore : OnlyActivated u (l₁.foldl activate u) := onlyActivated_foldl l₁ u
    have hown : (l₁.foldl activate u).src i = u.src i := foldl_activate_src_notMem hi₁ u
    have harrives : (l₁.foldl activate u).arrives f i = true := by
      rw [hbefore.arrives hown]
      exact (List.mem_filter.1 hi).2
    have hone : activations (l₁.foldl activate u) i ≤ 1 := by
      rw [hbefore.activations hown]
      exact activations_le_one hraised i
    obtain ⟨hmerge, hstate⟩ := activate_src_of_arrives hone harrives
    rw [endOfStep_src, hsrc, hmerge, hstate, hown]
    have hqueued : ((l₁.foldl activate u).tgt f).urgent =
        q ++ if u.running f = true then (l₁.filter (u.arrives f)).take (4 - q.length) else [] := by
      rw [foldl_activate_tgt hraised f hnodup (.refl u) fun _ _ => rfl]
      exact (foldl_withArrival (u.running f) (l₁.filter (u.arrives f)) (u.tgt f)).1
    have hplace : ((l₁.foldl activate u).tgt f).urgent.length < 4 ∧ (l₁.foldl activate u).running f = true ↔ i ∈ taken := by
      have harrived : arrived = l₁.filter (u.arrives f) ++ i :: l₂.filter (u.arrives f) := by
        rw [show arrived = allSources.filter (u.arrives f) from rfl, hl, List.filter_append,
          List.filter_cons_of_pos (List.mem_filter.1 hi).2]
      have hq : q.length ≤ 4 := hlength
      rw [hqueued, hbefore.running]
      by_cases hrun : u.running f = true
      · have htaken : taken = arrived.take (4 - q.length) := if_pos hrun
        rw [htaken, harrived, and_iff_left hrun, mem_take_append_cons (fun h => hi₁ (List.mem_filter.1 h).1),
          if_pos hrun, List.length_append, List.length_take]
        omega
      · have htaken : taken = [] := if_neg hrun
        simp [htaken, hrun]
    exact ⟨rfl, if_congr hplace rfl rfl⟩
  · obtain ⟨v, hv, hown, hsrc⟩ := activateAll_src u i
    have hone : activations v i ≤ 1 := by
      rw [hv.activations hown]
      exact activations_le_one hraised i
    have hqueued := activate_src_of_queued hone (by rw [hown]; exact he) (by rw [hown]; exact hc) (by rw [hown]; exact hs)
    rw [hown, hv.activations hown] at hqueued
    rw [endOfStep_src, hsrc]
    exact hqueued

end Sys2Proof.Machine
end


section
/-! PROOFS. CLEAR_ALL from either port (R156, R18, R36): the whole column of the reset matrix, seen after the end of its
step. Settles O55. -/

namespace Sys2Proof.Machine

open Sys2Proof

/-! ### The end of a step in which no source is enabled -/

theorem applyEdges_of_disabled {s : State} {i : SourceId} (h : (s.src i).entry.enable = false) (n : Nat) :
    applyEdges n s i = s := by
  have hedge : applyEdge s i = s := if_pos h
  induction n with
  | zero => rfl
  | succ n ih => rw [applyEdges, hedge, ih]

/-- A disabled source reaches no target (R51). -/
theorem activate_tgt_of_disabled {v : State} {i : SourceId} (h : (v.src i).entry.enable = false) (k : TargetId) :
    (activate v i).tgt k = v.tgt k := by
  have hsame : applyEdges (activations v i) (v.showing i) i = v.showing i :=
    applyEdges_of_disabled (by rw [State.showing_src]; exact h) _
  change (applyEdges (activations v i) (v.showing i) i).tgt k = v.tgt k
  rw [hsame]
  rfl

theorem foldl_activate_tgt_of_disabled {u : State} (h : ∀ i, (u.src i).entry.enable = false) (k : TargetId)
    (l : List SourceId) {v : State} (hv : OnlyActivated u v) : (l.foldl activate v).tgt k = v.tgt k := by
  induction l generalizing v with
  | nil => rfl
  | cons i l ih =>
    have hoff : (v.src i).entry.enable = false := by rw [hv.entry]; exact h i
    rw [List.foldl_cons, ih (hv.trans (onlyActivated_activate v i)), activate_tgt_of_disabled hoff]

/-- The end of a step in which no source is enabled writes no target context (R151). -/
theorem endOfStep_tgt_of_disabled {u : State} (h : ∀ i, (u.src i).entry.enable = false) (k : TargetId) :
    (endOfStep u).tgt k = u.tgt k := by
  rw [endOfStep_tgt]
  exact foldl_activate_tgt_of_disabled h k allSources (.refl u)

/-! ### The cleared state at the end of its step -/

/-- The values that CLEAR_ALL gives to the sources, targets, lines and lanes (R156). -/
structure State.Cleared (x v : State) : Prop where
  host : v.host.waitLimit = 0 ∧ v.host.fault = .empty ∧ v.host.flowCount = 0
  sticky : v.svc.sticky = 0
  bells : v.svc.doorbells = ServicePort.powerOn.doorbells
  sources : ∀ i, ∃ input, v.src i = ⟨powerOnEntry i, .idle, input, 0⟩
  targets : v.targets = State.reset.targets
  lineA : v.lineA = .powerOn
  lineB : v.lineB = .powerOn
  lanes : v.lanes = State.reset.lanes
  tick : v.tick = ⟨1000, x.now⟩
  timers : v.timers = State.reset.timers
  kept : v.restarts = x.restarts ∧ v.rsc = x.rsc ∧ v.staging = x.staging ∧ v.svc.snap = x.svc.snap ∧
    v.svc.abortCount = x.svc.abortCount ∧ v.svc.mask = x.svc.mask ∧ v.xrSample = x.xrSample ∧ v.now = x.now ∧
    v.pins = x.pins ∧ v.pending = x.pending ∧ v.coming = x.coming ∧ v.inReset = x.inReset ∧
    v.sched.lastMicro = x.sched.lastMicro ∧ v.sched.lastMilli = x.sched.lastMilli

/-- CLEAR_ALL, with any completion on the host port that keeps the cleared records, and any posted record. -/
theorem cleared_clearAll {x v : State} {host : HostPort} {posted : Posted}
    (hv : v = { clearAll x with host := host, svc := { (clearAll x).svc with posted := posted } })
    (h : host.waitLimit = 0 ∧ host.fault = .empty ∧ host.flowCount = 0) : State.Cleared x v := by
  rw [clearAll_eq] at hv
  subst hv
  exact {
    host := h, sticky := rfl, bells := rfl, sources := fun i => ⟨(x.src i).input, by simp [State.src]⟩, targets := rfl
    lineA := rfl, lineB := rfl, lanes := rfl, tick := rfl, timers := rfl
    kept := ⟨rfl, rfl, rfl, rfl, rfl, rfl, rfl, rfl, rfl, rfl, rfl, rfl, rfl, rfl⟩ }

theorem entryWord_powerOnEntry (i : SourceId) : entryWord (powerOnEntry i) = powerOnEntryWord i := by
  revert i
  decide

section Column
variable {x v : State} (h : State.Cleared x v)
include h

theorem State.Cleared.line (l : LineId) : v.line l = .powerOn := by
  cases l
  · exact h.lineA
  · exact h.lineB

theorem State.Cleared.lane (n : LaneId) : v.lane n = .powerOn :=
  (State.lane_congr (t := State.reset) h.lanes n).trans (lane_reset n)

theorem State.Cleared.timer (n : TimerId) : v.timer n = .powerOn :=
  (State.timer_congr (t := State.reset) h.timers n).trans (timer_reset n)

theorem State.Cleared.tgt (k : TargetId) : v.tgt k = .powerOn := by
  rw [State.tgt_congr (t := State.reset) h.targets k]
  fin_cases k <;> rfl

theorem State.Cleared.bell (k : TargetId) : v.bell k = ⟨0, false⟩ := by
  rw [State.bell, h.bells]
  fin_cases k <;> rfl

/-- Of the inputs only those of the XR sources stay: the samples are kept (R38, R39, R156). -/
theorem State.Cleared.inputOf (i : SourceId) :
    v.inputOf i = (decide (i.val < 16) && x.xrSample.getLsbD i.val) := by
  obtain ⟨-, -, -, -, -, -, hxr, -⟩ := h.kept
  obtain ⟨-, hfault, -⟩ := h.host
  by_cases hlow : i.val < 16
  · rw [State.inputOf_xr hlow, hxr, decide_eq_true hlow, Bool.true_and]
  · unfold State.inputOf State.lanesFault
    simp only [h.lane, h.lineA, h.lineB, h.bell, hfault, hlow, decide_false, Bool.false_and]
    split
    case h_15 => rw [decide_eq_false hlow, Bool.false_and]
    all_goals rfl

theorem State.Cleared.disabled (i : SourceId) : (v.src i).entry.enable = false := by
  obtain ⟨input, hsrc⟩ := h.sources i
  rw [hsrc]
  rfl

theorem State.Cleared.src (i : SourceId) :
    (endOfStep v).src i = ⟨powerOnEntry i, .idle, v.inputOf i, 0⟩ := by
  obtain ⟨input, hsrc⟩ := h.sources i
  have hnormal : (v.src i).entry.cls = .normal := by rw [hsrc]; rfl
  obtain ⟨hoff, -⟩ := normalSourcesAtTheEndOfAStep v i hnormal
  rw [hoff (h.disabled i), hsrc]

theorem State.Cleared.offer (k : TargetId) : (endOfStep v).offer k = none := by
  obtain ⟨-, hnone⟩ := candidateIsTheBestPresentableSource (endOfStep v) k
  have hcandidate : (endOfStep v).candidate k = none := hnone.2 fun i hfit => by
    obtain ⟨he, -⟩ := hfit
    rw [endOfStep_entry, h.disabled i] at he
    cases he
  rw [State.offer, hcandidate]

theorem State.Cleared.out (k : TargetId) :
    (endOfStep v).out k = ⟨false, 0, false, decide ((x.restart k).state ≠ .run)⟩ := by
  obtain ⟨hrestarts, -⟩ := h.kept
  have hrestart : (endOfStep v).restart k = x.restart k := by
    rw [endOfStep_restart, State.restart_congr hrestarts]
  have htgt : (endOfStep v).tgt k = .powerOn := (endOfStep_tgt_of_disabled h.disabled k).trans (h.tgt k)
  rw [endOfStep_out, State.outputOf, State.offerLevel, h.offer, State.urgentOut, State.running, htgt, hrestart]
  simp [Target.powerOn]

theorem State.Cleared.alert : (endOfStep v).svc.alert = false := by
  rw [endOfStep_alert, State.alertOutput, State.alertFlags, State.levelFlags, endOfStep_sticky, endOfStep_lineA,
    endOfStep_lineB, h.sticky, h.lineA, h.lineB]
  simp [Line.powerOn, Channel.powerOn]

/-- CLEAR_ALL sets its column of the reset matrix, and the end of its step leaves it so (R156). -/
theorem State.Cleared.column : ClearedColumn x (endOfStep v) where
  host := by rw [endOfStep_host]; exact h.host
  service := ⟨(endOfStep_sticky v).trans h.sticky, h.alert, fun k => (endOfStep_bell v k).trans (h.bell k)⟩
  sources i := by
    rw [h.src i, h.inputOf i]
    exact ⟨entryWord_powerOnEntry i, rfl, rfl, rfl⟩
  targets k := (endOfStep_tgt_of_disabled h.disabled k).trans (h.tgt k)
  outputs k := h.out k
  lines l := by
    rw [endOfStep_line, h.line l]
    exact ⟨rfl, rfl⟩
  lanes n := (endOfStep_lane v n).trans (h.lane n)
  tick := (endOfStep_tick v).trans h.tick
  timers n := (endOfStep_timer v n).trans (h.timer n)
  kept := by
    simp only [endOfStep_restarts, endOfStep_rsc, endOfStep_staging, endOfStep_snap, endOfStep_abortCount, endOfStep_mask,
      endOfStep_xrSample, endOfStep_now, endOfStep_pins, endOfStep_pending, endOfStep_coming, endOfStep_inReset,
      endOfStep_sched]
    exact h.kept

end Column

/-- The column does not speak of what a look at the pins of the service port moves. -/
theorem ClearedColumn.look {x t : State} (h : ClearedColumn x t) (f : Frame) : ClearedColumn x (t.withFrame f).look := by
  rw [State.look_eq]
  exact ⟨h.host, h.service, h.sources, h.targets, h.outputs, h.lines, h.lanes, h.tick, h.timers, h.kept⟩

/-- What CLEAR_ALL makes of the host port without a held request, and with one (R18). -/
theorem clearAll_host_records (x : State) :
    (clearAll x).host.waitLimit = 0 ∧ (clearAll x).host.fault = .empty ∧ (clearAll x).host.flowCount = 0 := by
  rw [clearAll_eq, clearHost_eq]
  dsimp only
  split <;> exact ⟨rfl, rfl, rfl⟩

theorem clearAll_host_of_none {x : State} (h : x.heldRequest = none) :
    (clearAll x).host = { x.host with waitLimit := 0, fault := .empty, flowCount := 0 } := by
  rw [clearAll_eq, clearHost_eq, h]

theorem clearAll_host_of_held {x : State} (h : x.heldRequest ≠ none) :
    (clearAll x).host =
      { x.host with
        phase := if x.pins.hreq then .completed else .idle, hdone := false, hrefuse := x.pins.hreq, hdata := 14
        waitLimit := 0, fault := .empty, flowCount := 0 } := by
  obtain ⟨held, hheld⟩ := Option.ne_none_iff_exists'.1 h
  rw [clearAll_eq, clearHost_eq, hheld]
  rfl

theorem clearAll_svc (x : State) :
    (clearAll x).svc =
      { x.svc with posted := ⟨0, 0, 0⟩, sticky := 0, doorbells := ServicePort.powerOn.doorbells } := by
  rw [clearAll_eq]
  rfl

theorem clearAll_pins (x : State) : (clearAll x).pins = x.pins := by rw [clearAll_eq]

theorem hostDone_svc (x : State) (w : Word) : (x.hostDone w).svc = x.svc := rfl

theorem hostDone_host (x : State) (w : Word) : (x.hostDone w).host = x.host.done x.pins.hreq w := rfl

theorem State.look_withFrame_host (u : State) (f : Frame) : ((u.withFrame f).look).host = u.host := rfl

/-- The answer to a command leaves the host port as the command's action did. -/
theorem host_of_answered (u : State) {r : Reason} {code : Byte} {arg : BitVec 16} (f : Frame) :
    (((endOfStep (u.postedAs r code arg)).withFrame f).look).host = u.host := by
  rw [State.look_withFrame_host, endOfStep_host, State.postedAs_host]

theorem State.withFrame_posted (u : State) (f : Frame) : (u.withFrame f).svc.posted = u.svc.posted := rfl

theorem posted_of_answered (u : State) {r : Reason} {code : Byte} {arg : BitVec 16} (f : Frame) :
    (((endOfStep (u.postedAs r code arg)).withFrame f).look).svc.posted = ⟨r.code, code, arg⟩ := by
  rw [State.look_posted, State.withFrame_posted, endOfStep_posted]
  rfl

/-- Settles O55. -/
theorem clearAllSetsItsColumn : Obligations.ClearAllSetsItsColumn := by
  intro m s arg data x a
  refine ⟨fun hf => ⟨?_, ?_⟩, fun hf => ⟨fun h0 => ?_, fun h0 => ?_⟩⟩
  · have hcleared : State.Cleared x ((clearAll x).hostDone 0) :=
      cleared_clearAll (posted := (clearAll x).svc.posted) rfl (clearAll_host_records x)
    have hexec : exec (.hubClearAll m true data) s = .next (endOfStep ((clearAll x).hostDone 0)) :=
      exec_write_leaves hf rfl (decodeItem_number (.hub .clearAll)) (.inr rfl) (fun _ => rfl) rfl nofun rfl rfl
    refine ⟨_, hexec, hcleared.column, ?_⟩
    rw [endOfStep_posted, endOfStep_frame, endOfStep_host, hostDone_svc, hostDone_host, clearAll_svc, clearAll_pins]
    exact ⟨rfl, rfl, rfl, rfl, rfl, rfl⟩
  · exact exec_write_protected hf rfl (decodeItem_number (.hub .clearAll)) (.inr rfl) rfl
  · subst h0
    obtain ⟨f, ht, -⟩ := writeCommand_answers hf (code := 0x7F) (arg := 0) (data := data) (act := clearAllCommand 0)
      (u := clearAll a) (r := .ok) rfl
    have hcleared : State.Cleared a ((clearAll a).postedAs .ok 0x7F 0) :=
      cleared_clearAll (host := (clearAll a).host) (posted := ⟨0, 0x7F, 0⟩) rfl (clearAll_host_records a)
    have hheld : a.heldRequest = s.heldRequest := heldRequest_arrive s m
    refine ⟨_, rfl, ?_⟩
    rw [ht]
    have hhost : (((endOfStep ((clearAll a).postedAs .ok 0x7F 0)).withFrame f).look).host = (clearAll a).host :=
      host_of_answered _ f
    refine ⟨hcleared.column.look f, ?_, fun h => ?_, fun h => ?_⟩
    · exact posted_of_answered (clearAll a) f
    · rw [hhost, clearAll_host_of_held (hheld ▸ h)]
      exact ⟨rfl, rfl, rfl, rfl⟩
    · rw [hhost, clearAll_host_of_none (hheld.trans h)]
      exact ⟨rfl, rfl, rfl, rfl⟩
  · exact ⟨_, rfl, writeCommand_answers hf (if_neg h0)⟩

end Sys2Proof.Machine
end


section
/-! PROOFS. The order of steps (R152, R153): which step of the hub's own is due and which of them comes first, the passing
of time, and the order in which commands presented together join the queue. Settles O2. -/

namespace Sys2Proof.Machine

open Sys2Proof

/-! ### The first due step of a list -/

@[simp] theorem firstDue_nil : firstDue [] = none := rfl

theorem firstDue_cons (b : Bool) (c : Instr) (l : List (Bool × Instr)) :
    firstDue ((b, c) :: l) = if b then some c else firstDue l := by
  cases b <;> rfl

theorem firstDue_append (l₁ l₂ : List (Bool × Instr)) (h : ∀ e ∈ l₁, e.1 = false) :
    firstDue (l₁ ++ l₂) = firstDue l₂ := by
  induction l₁ with
  | nil => rfl
  | cons e l₁ ih =>
    obtain ⟨b, c⟩ := e
    have hb : b = false := h _ List.mem_cons_self
    rw [List.cons_append, firstDue_cons, hb, if_neg Bool.false_ne_true,
      ih fun e he => h e (List.mem_cons_of_mem _ he)]

theorem firstDue_append_congr (l : List (Bool × Instr)) {r₁ r₂ : List (Bool × Instr)} (h : firstDue r₁ = firstDue r₂) :
    firstDue (l ++ r₁) = firstDue (l ++ r₂) := by
  induction l with
  | nil => exact h
  | cons e l ih =>
    obtain ⟨b, c⟩ := e
    rw [List.cons_append, List.cons_append, firstDue_cons, firstDue_cons, ih]

/-- The flag of a due step says that the condition of its row holds. -/
def Says (e : Bool × Instr) (row : Prop × Instr) : Prop := (e.1 = true ↔ row.1) ∧ e.2 = row.2

theorem firstOf_firstDue {l : List (Bool × Instr)} {rows : List (Prop × Instr)} (h : List.Forall₂ Says l rows) :
    FirstOf rows (firstDue l) := by
  induction h with
  | nil => rfl
  | @cons e row l rows hrow _ ih =>
    obtain ⟨b, c⟩ := e
    obtain ⟨p, d⟩ := row
    obtain ⟨hp, hc⟩ := hrow
    dsimp only at hp hc
    rw [firstDue_cons]
    refine ⟨fun h => ?_, fun h => ?_⟩
    · rw [if_pos (hp.2 h), hc]
    · rw [if_neg (mt hp.1 h)]
      exact ih

/-- Steps that are due only under a guard. -/
def guardBy (g : Bool) (l : List (Bool × Instr)) : List (Bool × Instr) := l.map fun e => (g && e.1, e.2)

theorem firstDue_guard (g : Bool) (l r : List (Bool × Instr)) :
    firstDue ((if g then l else []) ++ r) = firstDue (guardBy g l ++ r) := by
  cases g with
  | true => simp [guardBy]
  | false =>
    rw [firstDue_append (guardBy false l) r fun e he => ?_]
    · rfl
    · obtain ⟨e', -, rfl⟩ := List.mem_map.1 he
      rfl

theorem guardBy_says {g : Bool} {p : Prop} (hg : g = true ↔ p) {l : List (Bool × Instr)} {rows : List (Prop × Instr)}
    (h : List.Forall₂ Says l rows) : List.Forall₂ Says (guardBy g l) (rows.map fun row => (p ∧ row.1, row.2)) := by
  induction h with
  | nil => exact .nil
  | cons hrow _ ih =>
    obtain ⟨hp, hc⟩ := hrow
    exact .cons ⟨by rw [Bool.and_eq_true, hg, hp], hc⟩ ih

/-! ### What makes each step due -/

theorem lt_nextIndex (last since period : Nat) : last < nextIndex last since period :=
  Nat.lt_of_lt_of_le (Nat.lt_succ_self last) (le_max_left ..)

/-- No later multiple comes before the next one. -/
theorem nextIndex_le {last since period k : Nat} (h : 0 < period) (hk : last < k) (hsince : since ≤ k * period) :
    nextIndex last since period ≤ k := by
  have hceil : (since + (period - 1)) / period < k + 1 := by
    rw [Nat.div_lt_iff_lt_mul h, Nat.add_mul]
    omega
  exact max_le hk (Nat.lt_succ_iff.1 hceil)

/-- The next multiple falls on an instant when some later multiple does (R153). -/
theorem nextIndex_due {last since period : Nat} (h : 0 < period) :
    nextIndex last since period * period = since ↔ ∃ k, last < k ∧ k * period = since := by
  constructor
  · exact fun hnext => ⟨_, lt_nextIndex .., hnext⟩
  · rintro ⟨k, hk, rfl⟩
    exact Nat.le_antisymm (Nat.mul_le_mul_right _ (nextIndex_le h hk le_rfl)) (le_nextIndex_mul last _ h)

section Due
variable (s : State)

theorem State.endingReason_isSome (l : LineId) (write : Bool) :
    (s.endingReason l write).isSome = true ↔
      (s.lane (if write then txLane l else rxLane l)).state ≠ .idle ∨
        ((s.line l).owner ≠ .program ∨ (s.line l).state ≠ .running) ∧ (write = false → (s.line l).prog.rx = []) := by
  unfold State.endingReason Lane.holdsJob
  by_cases hbusy : (s.lane (if write then txLane l else rxLane l)).state ≠ .idle
  · simp [hbusy]
  · simp only [hbusy, decide_false, Bool.false_eq_true, if_false, false_or]
    cases write with
    | true => by_cases hlost : (s.line l).owner ≠ .program ∨ (s.line l).state ≠ .running <;> simp [hlost]
    | false =>
      by_cases hlost : (s.line l).owner ≠ .program ∨ (s.line l).state ≠ .running <;>
        by_cases hrx : (s.line l).prog.rx = [] <;> simp [hlost, hrx]

theorem State.twinRefusal_isNone (l : LineId) (write : Bool) :
    (s.twinRefusal l write).isNone = true ↔
      (s.lane (if write then txLane l else rxLane l)).state = .idle ∧
        if write then (s.line l).prog.tx.length < 32 else (s.line l).prog.rx ≠ [] := by
  unfold State.twinRefusal State.txRefusal State.rxRefusal Lane.holdsJob
  cases write with
  | true =>
    by_cases hbusy : (s.lane (txLane l)).state = .idle
    · by_cases hfull : Config.queueDepth ≤ (s.line l).prog.tx.length
      · simp [hbusy, hfull]
        exact hfull
      · simp [hbusy, hfull]
        exact Nat.lt_of_not_le hfull
    · simp [hbusy]
  | false =>
    by_cases hbusy : (s.lane (rxLane l)).state = .idle
    · by_cases hrx : (s.line l).prog.rx = [] <;> simp [hbusy, hrx]
    · simp [hbusy]

theorem State.heldDue_iff : s.heldDue = true ↔ s.heldEnds := by
  unfold State.heldDue State.heldEnds
  cases hh : s.heldRequest with
  | none => simp
  | some h =>
    simp only [Option.some.injEq, exists_eq_left', Bool.or_eq_true]
    rw [State.endingReason_isSome, State.twinRefusal_isNone]
    cases h.write with
    | true =>
      simp only [if_true]
      tauto
    | false =>
      simp only [Bool.false_eq_true, if_false]
      tauto

theorem State.expiryDue_iff :
    s.expiryDue = true ↔ ∃ h, s.heldRequest = some h ∧ h.since + h.limit.toNat * 32 ≤ s.now := by
  unfold State.expiryDue
  cases s.heldRequest with
  | none => simp
  | some h =>
    simp only [Option.some.injEq, exists_eq_left', decide_eq_true_eq]
    exact Iff.rfl

theorem State.pulseDue_iff (t : TargetId) : s.pulseDue t = true ↔ s.pulseOver t := by
  unfold State.pulseDue State.pulseOver
  cases (s.restart t).state <;> simp

theorem State.milliDue_iff : s.milliDue = true ↔ ∃ k, s.sched.lastMilli < k ∧ k * 32000 = s.now := by
  rw [State.milliDue, decide_eq_true_eq]
  exact nextIndex_due (by decide)

theorem State.microDue_iff : s.microDue = true ↔ ∃ k, s.sched.lastMicro < k ∧ k * 32 = s.now := by
  rw [State.microDue, decide_eq_true_eq]
  exact nextIndex_due (by decide)

theorem State.tickDue_iff :
    s.tickDue = true ↔ ∃ k, s.sched.lastTick < k ∧ s.tick.origin + k * (s.tick.length.toNat * 32) = s.now := by
  rw [State.tickDue, decide_eq_true_eq]
  constructor
  · exact fun h => ⟨_, lt_nextIndex .., h⟩
  · rintro ⟨k, hk, hnow⟩
    have hperiod : s.tick.period = s.tick.length.toNat * 32 := rfl
    rw [← hperiod] at hnow
    rcases Nat.eq_zero_or_pos s.tick.period with hzero | hpos
    · rw [hzero, Nat.mul_zero] at hnow ⊢
      exact hnow
    · have hsince : k * s.tick.period = s.now - s.tick.origin := by omega
      have hnext := (nextIndex_due hpos).2 ⟨k, hk, hsince⟩
      rw [State.nextTick, hnext]
      omega

theorem State.sampleDue_iff (l : LineId) : s.sampleDue l = true ↔ s.samples l := by
  unfold State.sampleDue State.samples
  rw [Bool.and_eq_true, decide_eq_true_eq, decide_eq_true_eq]
  refine and_congr_right fun _ => ?_
  constructor
  · exact fun h => ⟨_, lt_nextIndex .., h⟩
  · rintro ⟨k, hk, hnow⟩
    have hpos : 0 < bitTime (s.line l).format.rate := bitTime_pos _
    have hdiv := Nat.div_add_mod (k * bitTime (s.line l).format.rate) 16
    have hle : (s.line l).nextSample s.now ≤ k := nextIndex_le hpos hk (by omega)
    have hge := le_nextIndex_mul (s.line l).rx.index (16 * (s.now - (s.line l).rx.origin)) hpos
    have hmul := Nat.mul_le_mul_right (bitTime (s.line l).format.rate) hle
    have hsame : (s.line l).nextSample s.now * bitTime (s.line l).format.rate / 16 =
        k * bitTime (s.line l).format.rate / 16 := by
      refine Nat.le_antisymm (Nat.div_le_div_right hmul) ?_
      rw [Nat.le_div_iff_mul_le (by decide)]
      change _ ≤ nextIndex _ _ _ * _
      omega
    rw [Line.sampleInstant, hsame]
    exact hnow

theorem State.receiveDue_iff (l : LineId) : s.receiveDue l = true ↔ s.receives l := by
  unfold State.receiveDue State.receives Line.frameOf
  rw [Bool.and_eq_true, decide_eq_true_eq]
  refine and_congr_right fun _ => ?_
  dsimp only
  split
  · next raw h => simp [h]
  · next h => simpa using h

theorem State.transmitDue_iff (l : LineId) : s.transmitDue l = true ↔ s.transmits l := by
  unfold State.transmitDue State.transmits
  cases (s.line l).tx with
  | none => simp
  | some c =>
    simp only [Option.some.injEq, exists_eq_left', decide_eq_true_eq]
    exact Iff.rfl

theorem State.startDue_iff (l : LineId) : (s.line l).startDue = true ↔ s.mayStart l := by
  rw [Line.startDue_iff]
  unfold State.mayStart
  cases (s.line l).owner <;> exact Iff.rfl

theorem State.moveDue_iff (n : LaneId) : s.moveDue n = true ↔ s.mayMove n := by
  have hline : (if n.val < 2 then s.lineA else s.lineB) = s.line (if n.val < 2 then .a else .b) := by
    split <;> rfl
  unfold State.moveDue State.mayMove isTxLane
  split
  · next j k hrun =>
    simp only [hline, hrun, decide_eq_true_eq, LaneState.running.injEq]
    rw [and_iff_right ⟨j, k, rfl, rfl⟩]
    split
    · rw [decide_eq_true_eq]
      exact Iff.rfl
    · simp
  · next hidle =>
    simp only [Bool.false_eq_true, false_iff, not_and]
    rintro ⟨j, k, hrun⟩
    exact absurd hrun (hidle j k)

end Due

/-! ### The lists of steps -/

theorem dueMoves_says (s : State) : List.Forall₂ Says s.dueMoves s.moveRounds := by
  have hfirst (n : LaneId) : (s.moveDue n && !s.sched.moved.contains n) = true ↔ s.mayMove n ∧ n ∉ s.sched.moved := by
    rw [Bool.and_eq_true, s.moveDue_iff]
    simp
  exact .cons ⟨hfirst 0, rfl⟩ <| .cons ⟨hfirst 1, rfl⟩ <| .cons ⟨hfirst 2, rfl⟩ <| .cons ⟨hfirst 3, rfl⟩ <|
    .cons ⟨s.moveDue_iff 0, rfl⟩ <| .cons ⟨s.moveDue_iff 1, rfl⟩ <| .cons ⟨s.moveDue_iff 2, rfl⟩ <|
    .cons ⟨s.moveDue_iff 3, rfl⟩ .nil

theorem nextEarly_eq (s : State) :
    nextEarly s =
      firstDue ([(s.heldDue, .heldRequestCompletion s.here)] ++ guardBy (s.sched.passed7 || s.sched.passed8) s.dueStarts ++
        guardBy s.sched.passed8 s.dueMoves ++ s.earlySteps) := by
  unfold nextEarly State.madeDue
  simp only [List.append_assoc]
  exact firstDue_append_congr _ ((firstDue_guard _ _ _).trans (firstDue_append_congr _ (firstDue_guard _ _ _)))

theorem firstOf_orderAhead (s : State) : FirstOf s.orderAhead (nextEarly s) := by
  have hpassed : (s.sched.passed7 || s.sched.passed8) = true ↔ s.sched.passed7 = true ∨ s.sched.passed8 = true := by
    rw [Bool.or_eq_true]
  have hstarts : List.Forall₂ Says (guardBy (s.sched.passed7 || s.sched.passed8) s.dueStarts)
      ([(s.mayStart .a, .transmitterStart s.here .a), (s.mayStart .b, .transmitterStart s.here .b)].map fun row =>
        ((s.sched.passed7 = true ∨ s.sched.passed8 = true) ∧ row.1, row.2)) :=
    guardBy_says hpassed (.cons ⟨s.startDue_iff .a, rfl⟩ <| .cons ⟨s.startDue_iff .b, rfl⟩ .nil)
  have hmoves := guardBy_says (g := s.sched.passed8) Iff.rfl (dueMoves_says s)
  have hearly : List.Forall₂ Says s.earlySteps
      [(s.pulseOver 0, .pulseEnd s.here 0), (s.pulseOver 1, .pulseEnd s.here 1), (s.pulseOver 2, .pulseEnd s.here 2),
        (s.pulseOver 3, .pulseEnd s.here 3),
        (∃ k, s.sched.lastMilli < k ∧ k * 32000 = s.now, .buttonSample s.here),
        (∃ k, s.sched.lastTick < k ∧ s.tick.origin + k * (s.tick.length.toNat * 32) = s.now, .tickStep s.here)] :=
    .cons ⟨s.pulseDue_iff 0, rfl⟩ <| .cons ⟨s.pulseDue_iff 1, rfl⟩ <| .cons ⟨s.pulseDue_iff 2, rfl⟩ <|
    .cons ⟨s.pulseDue_iff 3, rfl⟩ <| .cons ⟨s.milliDue_iff, rfl⟩ <| .cons ⟨s.tickDue_iff, rfl⟩ .nil
  rw [nextEarly_eq]
  exact firstOf_firstDue (List.rel_append (List.rel_append (.cons ⟨s.heldDue_iff, rfl⟩ hstarts) hmoves) hearly)

/-- The steps from the host port on, behind a frame's command (R152). -/
theorem fromPorts_says (s : State) :
    List.Forall₂ Says (s.portSteps.tail ++ s.laterSteps) s.orderFromPorts := by
  have hrequest : s.requestDue = true ↔ s.pins.hreq = true ∧ s.host.phase = .idle := by
    rw [State.requestDue, Bool.and_eq_true, decide_eq_true_eq]
  have hlines : List.Forall₂ Says (s.laterSteps.take 8) (s.orderFromPorts.drop 3 |>.take 8) :=
    .cons ⟨s.sampleDue_iff .a, rfl⟩ <| .cons ⟨s.receiveDue_iff .a, rfl⟩ <| .cons ⟨s.sampleDue_iff .b, rfl⟩ <|
    .cons ⟨s.receiveDue_iff .b, rfl⟩ <| .cons ⟨s.transmitDue_iff .a, rfl⟩ <| .cons ⟨s.startDue_iff .a, rfl⟩ <|
    .cons ⟨s.transmitDue_iff .b, rfl⟩ <| .cons ⟨s.startDue_iff .b, rfl⟩ .nil
  exact .cons ⟨decide_eq_true_iff, rfl⟩ <| .cons ⟨hrequest, rfl⟩ <| .cons ⟨s.expiryDue_iff, rfl⟩ <|
    List.rel_append (List.rel_append hlines (dueMoves_says s)) (.cons ⟨s.microDue_iff, rfl⟩ .nil)

theorem nextLate_of_complete {s : State} {f : Frame} (hf : s.svc.frame = some f) (hc : f.complete) :
    nextLate s = some (commandOf s.here f.code f.arg f.word) := by
  have hcommand : s.frameCommand = some (commandOf s.here f.code f.arg f.word) := by
    rw [State.frameCommand, hf]
    exact if_pos ((Frame.due_iff f).2 hc)
  rw [nextLate, State.portSteps, hcommand]
  rfl

theorem nextLate_of_none {s : State} (h : ∀ f, s.svc.frame = some f → ¬ f.complete) :
    FirstOf s.orderFromPorts (nextLate s) := by
  have hcommand : s.frameCommand = none := by
    unfold State.frameCommand
    cases hf : s.svc.frame with
    | none => rfl
    | some f => exact if_neg (mt (Frame.due_iff f).1 (h f hf))
  have hlist : nextLate s = firstDue (s.portSteps.tail ++ s.laterSteps) := by
    rw [nextLate, State.portSteps, hcommand]
    rfl
  rw [hlist]
  exact firstOf_firstDue (fromPorts_says s)

/-! ### Positions and the queue of commands (R152) -/

theorem precedes_iff (c d : Instr) :
    precedes c d = true ↔ position c < position d ∨ (position c = position d ∧ placeInClass c < placeInClass d) := by
  simp only [precedes, Bool.or_eq_true, Bool.and_eq_true, decide_eq_true_eq]

/-- A command does not come behind another of its instant (R152). -/
def NotBehind (c d : Instr) : Prop :=
  position c < position d ∨ (position c = position d ∧ placeInClass c ≤ placeInClass d)

theorem notBehind_of_not_precedes {c d : Instr} (h : ¬ precedes c d = true) : NotBehind d c := by
  rw [precedes_iff] at h
  unfold NotBehind
  omega

theorem NotBehind.trans {c d e : Instr} (h : NotBehind c d) (k : NotBehind d e) : NotBehind c e := by
  unfold NotBehind at *
  omega

theorem notBehind_of_precedes {c d : Instr} (h : precedes c d = true) : NotBehind c d := by
  rw [precedes_iff] at h
  unfold NotBehind
  omega

theorem insertStep_perm (c : Instr) (l : List Instr) : (insertStep c l).Perm (c :: l) := by
  induction l with
  | nil => exact .refl _
  | cons d l ih =>
    rw [insertStep]
    split
    · exact .refl _
    · exact (ih.cons d).trans (.swap c d l)

theorem insertStep_pairwise (c : Instr) {l : List Instr} (h : l.Pairwise NotBehind) :
    (insertStep c l).Pairwise NotBehind := by
  induction l with
  | nil => exact List.pairwise_singleton _ _
  | cons d l ih =>
    obtain ⟨hd, hl⟩ := List.pairwise_cons.1 h
    rw [insertStep]
    split
    · next hp =>
      refine List.pairwise_cons.2 ⟨fun e he => ?_, h⟩
      have hcd := notBehind_of_precedes hp
      rcases List.mem_cons.1 he with rfl | he
      · exact hcd
      · exact hcd.trans (hd e he)
    · next hp =>
      refine List.pairwise_cons.2 ⟨fun e he => ?_, ih hl⟩
      rcases List.mem_cons.1 ((insertStep_perm c l).mem_iff.1 he) with rfl | he
      · exact notBehind_of_not_precedes hp
      · exact hd e he

/-- The commands of one place. -/
def samePlace (c d : Instr) : Bool := decide (position d = position c ∧ placeInClass d = placeInClass c)

/-- An inserted command joins behind the commands of its place. -/
theorem insertStep_filter (c e : Instr) {l : List Instr} (h : l.Pairwise NotBehind) :
    (insertStep c l).filter (samePlace e) = (l ++ [c]).filter (samePlace e) := by
  induction l with
  | nil => rfl
  | cons d l ih =>
    obtain ⟨hd, hl⟩ := List.pairwise_cons.1 h
    rw [insertStep]
    split
    · next hp =>
      rw [List.filter_append, List.filter_cons, List.filter_singleton]
      cases hc : samePlace e c with
      | false => simp
      | true =>
        have hnone : (d :: l).filter (samePlace e) = [] := List.filter_eq_nil_iff.2 fun k hk hsame => by
          have hle : NotBehind d k := by
            rcases List.mem_cons.1 hk with rfl | hk
            · exact .inr ⟨rfl, le_rfl⟩
            · exact hd k hk
          rw [precedes_iff] at hp
          simp only [samePlace, decide_eq_true_eq] at hc hsame
          unfold NotBehind at hle
          omega
        rw [hnone]
        rfl
    · rw [List.cons_append, List.filter_cons, List.filter_cons, ih hl]

theorem inStepOrder_append_singleton (cs : List Instr) (c : Instr) :
    inStepOrder (cs ++ [c]) = insertStep c (inStepOrder cs) := by
  rw [inStepOrder, List.foldl_append]
  rfl

theorem inStepOrder_perm (cs : List Instr) : (inStepOrder cs).Perm cs := by
  induction cs using List.reverseRecOn with
  | nil => exact .refl _
  | append_singleton cs c ih =>
    rw [inStepOrder_append_singleton]
    exact ((insertStep_perm c _).trans (ih.cons c)).trans (List.perm_append_singleton c cs).symm

theorem inStepOrder_pairwise (cs : List Instr) : (inStepOrder cs).Pairwise NotBehind := by
  induction cs using List.reverseRecOn with
  | nil => exact .nil
  | append_singleton cs c ih =>
    rw [inStepOrder_append_singleton]
    exact insertStep_pairwise c ih

theorem inStepOrder_filter (e : Instr) (cs : List Instr) :
    (inStepOrder cs).filter (samePlace e) = cs.filter (samePlace e) := by
  induction cs using List.reverseRecOn with
  | nil => rfl
  | append_singleton cs c ih =>
    rw [inStepOrder_append_singleton, insertStep_filter c e (inStepOrder_pairwise cs), List.filter_append, ih,
      List.filter_append]

theorem position_of_access {c : Instr} (h : c.access ≠ none) : position c = 5 := by
  cases c with
  | hostTransactionBegin | registerWrite | lineRxWait | tgtTake | tgtTakeUrgent | doorbellWord | lineRx | tsqRecord
  | hubFaultAck | hubFlowCount | hubClearAll | lineTxWait | srcEntry | srcStatus | tgtDone | tgtFloor | tgtUrgentStatus
  | lineStart | lineStop | lineClear | lineTx | linePerr | releaseLine | reclaimLine | unlockSeize | tsqSubmit | resume
  | abort | tsqDiscarded | ttmTick | start | stop | ack | ttmStatus | rscRestart => rfl
  | _ => exact absurd rfl h

theorem position_commandOf (m : Moment) (code : Byte) (arg : BitVec 16) (data : Word) :
    position (commandOf m code arg data) = 4 ∧ placeInClass (commandOf m code arg data) = 0 := by
  unfold commandOf
  split <;> exact ⟨rfl, rfl⟩

/-- Settles O2. -/
theorem emptyQueueTakesTheDueStepOrPassesTime : Obligations.EmptyQueueTakesTheDueStepOrPassesTime := by
  refine ⟨fun s hq => ?_, firstOf_orderAhead, fun s => ⟨fun f hf hc => nextLate_of_complete hf hc, nextLate_of_none⟩,
    fun s cs => ⟨inStepOrder cs, rfl, inStepOrder_perm cs, inStepOrder_pairwise cs, fun c => inStepOrder_filter c cs⟩,
    fun c => ⟨fun hc => ?_, position_of_access⟩, fun m t code arg data l g => ?_, fun c s t he => exec_queues he⟩
  · have hidle : step s = idle s := by rw [step, hq]
    rw [hidle, idle]
    refine ⟨fun hr => if_pos hr, fun hr => ?_⟩
    rw [if_neg (by simp [hr])]
    refine ⟨fun c hc => by rw [hc], fun hnone => ?_⟩
    rw [hnone]
    refine ⟨fun c hc => ?_, fun hlate => ?_⟩
    · dsimp only
      rw [hc]
    · dsimp only
      rw [hlate, passTime, seeReq_eq]
      rfl
  · cases c with
    | resetNAssert | resetNRelease => rfl
    | _ => cases hc
  · obtain ⟨hpos, hplace⟩ := position_commandOf m code arg data
    refine ⟨rfl, rfl, rfl, rfl, rfl, hpos, hplace, rfl, rfl, rfl, rfl, ?_⟩
    cases l <;> exact ⟨rfl, rfl, rfl, rfl, rfl, rfl, rfl, rfl, rfl, rfl⟩

end Sys2Proof.Machine
end
